-- ==== Sys2Proof/Word.lean ====
section
/-! DEFINITION. The widths of the block's data: the byte of the stream, the two counters, the candidate frame length. -/

namespace Sys2Proof

/-- A byte: "an unsigned 8-bit value from 0 to 255" (00_scope.md R8). -/
abbrev Byte := BitVec 8

/-- A statistics counter, `CNT_W` = 32 bits wide (00_scope.md R6; 10_state.md R23, R24). -/
abbrev Counter := BitVec 32

/-- A candidate frame length, `LEN_W` = 9 bits wide (00_scope.md R6; 30_encoding.md R69). -/
abbrev Length := BitVec 9

end Sys2Proof
end

