-- ==== Sys2Proof/Config.lean ====
section
/-! DEFINITION. What is fixed for one block: the constants of the source (00_scope.md R7), the parameters (R6), the
hardwired line configuration (10_state.md R30), and the free values. An OPEN parameter and a free value is an `opaque`
constant with no body: nothing in Lean evaluates it, so what is proved holds for each of its values. -/

namespace Sys2Proof

/-! ## The types of the values that pass through the block -/

namespace Config

/-- Which numbers beside 0 are the number of a port identifier: OPEN (log entry 2). -/
opaque morePorts : Nat → Bool
/-- Which numbers beside 0 are the number of a timeout: OPEN (log entry 2). -/
opaque moreTimeouts : Nat → Bool

/-- The parameter `PortId` of 00_scope.md R6: which numbers are values of the type. 0 is one, so the type has a value. -/
def isPort (code : Nat) : Bool := code == 0 || morePorts code

/-- The parameter `Timeout` of 00_scope.md R6: which numbers are values of the type. 0 is one, so the type has a
value. -/
def isTimeout (code : Nat) : Bool := code == 0 || moreTimeouts code

end Config

/-- `PortId`: an OPEN type, a parameter of the model: the values are stored and forwarded, never inspected (00_scope.md
R6; 10_state.md R28). Its values are numbered, and `Config.isPort` has no known value beside 0, so that nothing in Lean
says how many there are or which: what is proved holds for every non-empty finite or countable type.
DESIGN CHOICE (log entry 2): the numbering. Safe. -/
structure PortId where
  code : Nat
  isPort : Config.isPort code = true
  deriving DecidableEq, Repr

/-- `Timeout`: an OPEN type, a parameter of the model, held like `PortId` (00_scope.md R6; 10_state.md R29).
DESIGN CHOICE (log entry 2): the numbering. Safe. -/
structure Timeout where
  code : Nat
  isTimeout : Config.isTimeout code = true
  deriving DecidableEq, Repr

/-- The port identifier with the number 0. -/
def firstPort : PortId := { code := 0, isPort := rfl }

/-- The timeout with the number 0. -/
def firstTimeout : Timeout := { code := 0, isTimeout := rfl }

/-- The port identifier with a given number, for writing one down; `firstPort` where the type has none with that
number. -/
def portOf (code : Nat) : PortId :=
  if h : Config.isPort code = true then { code := code, isPort := h } else firstPort

/-- The timeout with a given number, for writing one down; `firstTimeout` where the type has none with that number. -/
def timeoutOf (code : Nat) : Timeout :=
  if h : Config.isTimeout code = true then { code := code, isTimeout := h } else firstTimeout

/-- The parity of the serial line. The block only ever passes `even` (10_state.md R30). -/
inductive Parity where
  | none
  | even
  | odd
  deriving DecidableEq, Repr, Inhabited

/-- What a `T_Open` carries: the stored port and timeout with the line configuration (20_memory.md R57, R59). -/
structure LinkConfig where
  port : PortId
  baud : Nat
  parity : Parity
  stopBits : Nat
  timeout : Timeout
  deriving DecidableEq, Repr

/-- The transport's answer to `T_Open`, `T_Write` and `T_Close` (20_memory.md R57). -/
inductive Status where
  | ok
  | err
  deriving DecidableEq, Repr, Inhabited

/-- The status half of the transport's answer to `T_Read` (20_memory.md R57). -/
inductive ReadStatus where
  | ok
  | eof
  | err
  deriving DecidableEq, Repr, Inhabited

/-- The transport's answer `(c, st)` to `T_Read` (20_memory.md R57). -/
structure ReadAnswer where
  bytes : List Byte
  status : ReadStatus
  deriving DecidableEq, Repr, Inhabited

/-- The encoded good-read percentage, the output field of `pctEncode` (43_statistics.md R132).
DESIGN CHOICE (log entry 3): the codes are numbered by natural numbers. Safe: the encoding itself is left open. -/
structure PctField where
  code : Nat
  deriving DecidableEq, Repr, Inhabited

namespace Config

/-! ## Constants of the source (00_scope.md R7) -/

/-- `SYNC`, the synchronisation byte. -/
def sync : Byte := 0x71#8
/-- `SUBTYPE`, the required value of header byte 2. -/
def subtype : Byte := 0x01#8
/-- `KIND_OPT`, header byte 3 of the optional-datagram kind. -/
def kindOpt : Byte := 0x50#8
/-- `KIND_DATA`, header byte 3 of the data-datagram kind. -/
def kindData : Byte := 0x10#8
/-- `HDR_LEN`, the number of header bytes buffered before the header is validated. -/
def hdrLen : Nat := 4
/-- `LEN_BIAS`: the candidate total length is header byte 1 plus this. -/
def lenBias : Length := 3#9
/-- `LEN_OPT`, the length of an optional datagram. -/
def lenOpt : Nat := 20
/-- `LEN_DATA`, the length of a data datagram. -/
def lenData : Nat := 203
/-- Header byte 1 of a frame of `LEN_OPT` bytes (30_encoding.md R67). -/
def lenByteOpt : Byte := 0x11#8
/-- Header byte 1 of a frame of `LEN_DATA` bytes (30_encoding.md R68). -/
def lenByteData : Byte := 0xC8#8
/-- `BAUD` (00_scope.md R7; 10_state.md R30). -/
def baud : Nat := 9600
/-- `PARITY` (00_scope.md R7; 10_state.md R30). -/
def parity : Parity := .even
/-- `STOP_BITS` (00_scope.md R7; 10_state.md R30). -/
def stopBits : Nat := 1
/-- `CHUNK_MAX`, the largest byte count one transport read may return (00_scope.md R6). -/
def chunkMax : Nat := 1024

/-! ## OPEN parameters (00_scope.md R6) -/

/-- The smallest `BUF_CAP` that R6 allows: `CHUNK_MAX + 257`. -/
def bufCapMin : Nat := chunkMax + 257

/-- How far `BUF_CAP` exceeds its least allowed value: OPEN (log entry 4). -/
opaque bufCapExtra : Nat

/-- `BUF_CAP`, the capacity of the frame buffer: OPEN, constrained by `BUF_CAP ≥ CHUNK_MAX + 257`. -/
def bufCap : Nat := bufCapExtra + bufCapMin

/-- Whether `n` bytes fit the frame buffer, `n ≤ BUF_CAP`. The first test is implied by the second and lets a small
`n` be decided although `BUF_CAP` is open (`Laws.bufFits_iff`). -/
def bufFits (n : Nat) : Bool := decide (n ≤ bufCapMin) || decide (n ≤ bufCap)

/-- The smallest `MAX_OPERAND_LEN` that R6 allows. -/
def maxOperandLenMin : Nat := 258

/-- How far `MAX_OPERAND_LEN` exceeds its least allowed value: OPEN (log entry 4). -/
opaque maxOperandLenExtra : Nat

/-- `MAX_OPERAND_LEN`, the longest byte-sequence operand: OPEN, constrained by `MAX_OPERAND_LEN ≥ 258`. -/
def maxOperandLen : Nat := maxOperandLenExtra + maxOperandLenMin

/-- Whether a byte-sequence operand of length `n` is accepted, `n ≤ MAX_OPERAND_LEN`. The first test is implied by the
second and lets a small `n` be decided although the bound is open (`Laws.operandFits_iff`). -/
def operandFits (n : Nat) : Bool := decide (n ≤ maxOperandLenMin) || decide (n ≤ maxOperandLen)

/-- `FAULT_APPEND`: whether the bytes a read delivers together with a read error are appended: OPEN (log entry 4). -/
opaque faultAppend : Bool

/-- `pctEncode`, the register encoding of the exact percentage: an uninterpreted function (43_statistics.md R132;
log entry 3). -/
opaque pctEncode : Rat → PctField

/-! ## The environment's free answers
Each answer of the transport "is chosen by the environment" (20_memory.md R57; 93_implementation_defined.md I16). The
state lists the answers a run is given; past the end of a list, the n-th further answer is one of these (log entry 5). -/

/-- The n-th unlisted answer to `T_Open`. -/
opaque freeOpen : Nat → Status
/-- The n-th unlisted answer to `T_Write`. -/
opaque freeWrite : Nat → Status
/-- The n-th unlisted answer to `T_Close`; the block ignores it (93_implementation_defined.md I17). -/
opaque freeClose : Nat → Status
/-- The n-th unlisted answer to `T_Read`, before the duty `|c| ≤ CHUNK_MAX` is imposed on it. -/
opaque freeReadRaw : Nat → ReadAnswer

/-- The n-th unlisted answer to `T_Read`: any answer that keeps the transport's duty `|c| ≤ CHUNK_MAX`
(20_memory.md R58: "A model encodes them as constraints on the draws"). -/
def freeRead (n : Nat) : ReadAnswer :=
  { freeReadRaw n with bytes := (freeReadRaw n).bytes.take chunkMax }

/-! ## The hardwired line configuration -/

/-- The operand of every `T_Open`: the stored port and timeout with `CFG_LINE` (10_state.md R30; 20_memory.md R59). -/
def linkConfig (port : PortId) (timeout : Timeout) : LinkConfig :=
  { port := port, baud := baud, parity := parity, stopBits := stopBits, timeout := timeout }

end Config

end Sys2Proof
end

