-- ==== Sys2Proof/Syntax.lean ====
section
/-! DEFINITION. The syntax of the opcode table: what stands on the command port, the header of a frame, and the one
inductive of instructions, one constructor per row of spec/opcode_table.json (30_encoding.md R61, R70). -/

namespace Sys2Proof

/-- What the host presents on the command port: the 8-bit command word and the operand lines. The opcode says which
operand lines belong to the command (30_encoding.md R60, R62); the others carry nothing (log entry 6). -/
structure Command where
  word : Byte
  port : PortId
  timeout : Timeout
  bytes : List Byte
  deriving DecidableEq, Repr

/-- The class of a valid frame header (30_encoding.md R70). The two `Other` classes carry b1, which their rows mask
out. -/
inductive HeaderClass where
  | optStd
  | dataStd
  | dataLen20
  | optLen203
  | optOther (b1 : Byte)
  | dataOther (b1 : Byte)
  deriving DecidableEq, Repr, Inhabited

/-- One constructor per row of spec/opcode_table.json: the seven commands of the command port and the six header
classes that POLL decodes from the head of the frame buffer. -/
inductive Instr where
  /-- OPEN (41_connection.md R90). -/
  | openCmd (port : PortId) (timeout : Timeout)
  /-- CLOSE (41_connection.md R91). -/
  | closeCmd
  /-- POLL (42_poll.md R100). -/
  | poll
  /-- GETSTATS (43_statistics.md R130). -/
  | getstats
  /-- SEND (44_send_command.md R135). -/
  | send (payload : List Byte)
  /-- CSUM_GEN (40_checksum.md R80). -/
  | csumGen (payload : List Byte)
  /-- CSUM_CHECK (40_checksum.md R81). -/
  | csumCheck (frame : List Byte)
  /-- HDR_OPT_STD: `71 11 01 50` (30_encoding.md R70). -/
  | hdrOptStd
  /-- HDR_DATA_STD: `71 C8 01 10`. -/
  | hdrDataStd
  /-- HDR_DATA_LEN20: `71 11 01 10`. -/
  | hdrDataLen20
  /-- HDR_OPT_LEN203: `71 C8 01 50`. -/
  | hdrOptLen203
  /-- HDR_OPT_OTHER: `71 b1 01 50` with b1 neither `11` nor `C8`. -/
  | hdrOptOther (b1 : Byte)
  /-- HDR_DATA_OTHER: `71 b1 01 10` with b1 neither `11` nor `C8`. -/
  | hdrDataOther (b1 : Byte)
  deriving DecidableEq, Repr

/-- The row of a header class. -/
def HeaderClass.toInstr : HeaderClass → Instr
  | .optStd => .hdrOptStd
  | .dataStd => .hdrDataStd
  | .dataLen20 => .hdrDataLen20
  | .optLen203 => .hdrOptLen203
  | .optOther b1 => .hdrOptOther b1
  | .dataOther b1 => .hdrDataOther b1

/-- Where an instruction's bits stand: on the command port, or in the frame buffer as the four header bytes, b0
first. -/
inductive Code where
  | command (c : Command)
  | header (bytes : List Byte)
  deriving DecidableEq, Repr

end Sys2Proof
end

