-- ==== Sys2Proof/WellFormed.lean ====
section
/-! DEFINITION. When an instruction is one that an encoding can carry. -/

namespace Sys2Proof

/-- The b1 of an `Other` header row: any value that no exact row above it matches (30_encoding.md R70, R71). -/
def otherLenByte (b1 : Byte) : Bool := b1 != Config.lenByteOpt && b1 != Config.lenByteData

/-- The checks: a byte-sequence operand has at most `MAX_OPERAND_LEN` bytes (30_encoding.md R62, R63), and the b1 of an
`Other` header class is neither `0x11` nor `0xC8` (R70). -/
def WellFormed : Instr → Bool
  | .openCmd _ _ => true
  | .closeCmd => true
  | .poll => true
  | .getstats => true
  | .send payload => Config.operandFits payload.length
  | .csumGen payload => Config.operandFits payload.length
  | .csumCheck frame => Config.operandFits frame.length
  | .hdrOptStd => true
  | .hdrDataStd => true
  | .hdrDataLen20 => true
  | .hdrOptLen203 => true
  | .hdrOptOther b1 => otherLenByte b1
  | .hdrDataOther b1 => otherLenByte b1

end Sys2Proof
end

