-- ==== Sys2Proof/Decode.lean ====
section
/-! DEFINITION. The two decoders, of the command port (30_encoding.md R60 to R63) and of the frame header (R66, R70, R71),
each total and rejecting by name; after them the encoder, and the decoder of a word as spec/opcode_table.json numbers
it. -/

namespace Sys2Proof

/-- Why bits are no instruction. -/
inductive DecodeError where
  /-- `OPC = 000` (30_encoding.md R63). -/
  | reservedOpcode
  /-- `RSV ≠ 00000` (R63). -/
  | reservedBits
  /-- A byte-sequence operand is longer than `MAX_OPERAND_LEN` (R63). -/
  | operandTooLong
  /-- Fewer than four header bytes (42_poll.md R110). -/
  | headerShort
  /-- `b0 ≠ 0x71` (30_encoding.md R70). -/
  | badSync
  /-- `b2 ≠ 0x01` (R70). -/
  | badSubtype
  /-- `b3 ∉ {0x50, 0x10}` (R70). -/
  | badKind
  deriving DecidableEq, Repr

/-! ## The command port -/

/-- `OPC` = bits [2:0] of the command word (30_encoding.md R60). -/
def opcField (w : Byte) : BitVec 3 := w.extractLsb' 0 3

/-- `RSV` = bits [7:3] of the command word (30_encoding.md R60). -/
def rsvField (w : Byte) : BitVec 5 := w.extractLsb' 3 5

/-- A byte-sequence operand is passed on if it is not too long (30_encoding.md R62, R63). -/
def decodeBytes (bytes : List Byte) (row : List Byte → Instr) : Except DecodeError Instr :=
  if Config.operandFits bytes.length then .ok (row bytes) else .error .operandTooLong

/-- The opcode map (30_encoding.md R61), on the operand set of each opcode (R62). -/
def decodeCommand (c : Command) : Except DecodeError Instr :=
  if rsvField c.word ≠ 0#5 then .error .reservedBits
  else match (opcField c.word).toNat with
    | 1 => .ok (.openCmd c.port c.timeout)
    | 2 => .ok .closeCmd
    | 3 => .ok .poll
    | 4 => .ok .getstats
    | 5 => decodeBytes c.bytes .send
    | 6 => decodeBytes c.bytes .csumGen
    | 7 => decodeBytes c.bytes .csumCheck
    | _ => .error .reservedOpcode

/-! ## The frame header -/

/-- The class of header byte b1 under a kind: the two lengths with rows of their own, and every other (R70). -/
def classOf (b1 : Byte) (std20 std203 : HeaderClass) (other : Byte → HeaderClass) : HeaderClass :=
  if b1 = Config.lenByteOpt then std20 else if b1 = Config.lenByteData then std203 else other b1

/-- The header test of 30_encoding.md R70 (42_poll.md R111), on the first four bytes of a sequence. b1 is not tested. -/
def decodeHeader : List Byte → Except DecodeError HeaderClass
  | b0 :: b1 :: b2 :: b3 :: _ =>
    if b0 ≠ Config.sync then .error .badSync
    else if b2 ≠ Config.subtype then .error .badSubtype
    else if b3 = Config.kindOpt then .ok (classOf b1 .optStd .optLen203 .optOther)
    else if b3 = Config.kindData then .ok (classOf b1 .dataLen20 .dataStd .dataOther)
    else .error .badKind
  | _ => .error .headerShort

/-- The decoder of either place an instruction's bits stand. -/
def decode : Code → Except DecodeError Instr
  | .command c => decodeCommand c
  | .header bytes => (decodeHeader bytes).map HeaderClass.toInstr

/-! ## The encoder -/

/-- A command with no operands. -/
def Command.ofWord (w : Byte) : Command :=
  { word := w, port := firstPort, timeout := firstTimeout, bytes := [] }

/-- The bits of an instruction (30_encoding.md R61, R62, R70). Operand lines that the opcode does not take are zero. -/
def encode : Instr → Code
  | .openCmd port timeout => .command { word := 0x01#8, port := port, timeout := timeout, bytes := [] }
  | .closeCmd => .command (Command.ofWord 0x02#8)
  | .poll => .command (Command.ofWord 0x03#8)
  | .getstats => .command (Command.ofWord 0x04#8)
  | .send payload => .command { Command.ofWord 0x05#8 with bytes := payload }
  | .csumGen payload => .command { Command.ofWord 0x06#8 with bytes := payload }
  | .csumCheck frame => .command { Command.ofWord 0x07#8 with bytes := frame }
  | .hdrOptStd => .header [0x71#8, 0x11#8, 0x01#8, 0x50#8]
  | .hdrDataStd => .header [0x71#8, 0xC8#8, 0x01#8, 0x10#8]
  | .hdrDataLen20 => .header [0x71#8, 0x11#8, 0x01#8, 0x10#8]
  | .hdrOptLen203 => .header [0x71#8, 0xC8#8, 0x01#8, 0x50#8]
  | .hdrOptOther b1 => .header [0x71#8, b1, 0x01#8, 0x50#8]
  | .hdrDataOther b1 => .header [0x71#8, b1, 0x01#8, 0x10#8]

/-! ## The opcode table's numbering -/

/-- The header word `H = b0·2^24 + b1·2^16 + b2·2^8 + b3` (30_encoding.md R71). -/
def headerWord (b0 b1 b2 b3 : Byte) : BitVec 32 := b0 ++ b1 ++ b2 ++ b3

/-- One frame-header row of the table: `H` is of the class if `H AND mask = pattern` (30_encoding.md R71). -/
structure HeaderRow where
  pattern : BitVec 32
  mask : BitVec 32
  deriving DecidableEq, Repr

/-- Whether a header word matches a row. -/
def HeaderRow.hits (r : HeaderRow) (h : BitVec 32) : Bool := h &&& r.mask == r.pattern

/-- The frame-header rows of spec/opcode_table.json in table order, each with the class it stands for, given b1. -/
def headerRows (b1 : Byte) : List (HeaderRow × HeaderClass) :=
  [ (⟨0x71110150#32, 0xFFFFFFFF#32⟩, .optStd),
    (⟨0x71C80110#32, 0xFFFFFFFF#32⟩, .dataStd),
    (⟨0x71110110#32, 0xFFFFFFFF#32⟩, .dataLen20),
    (⟨0x71C80150#32, 0xFFFFFFFF#32⟩, .optLen203),
    (⟨0x71000150#32, 0xFF00FFFF#32⟩, .optOther b1),
    (⟨0x71000110#32, 0xFF00FFFF#32⟩, .dataOther b1) ]

/-- The first row of the table that a header word matches (30_encoding.md R71). -/
def firstHeaderRow (b0 b1 b2 b3 : Byte) : Option HeaderClass :=
  ((headerRows b1).find? fun row => row.1.hits (headerWord b0 b1 b2 b3)).map (·.2)

/-- The four bytes of a header word in stream order: b0 is the most significant byte of `H` (30_encoding.md R71; log
entry 7). -/
def headerBytes (w : Nat) : List Byte :=
  [BitVec.ofNat 8 (w >>> 24), BitVec.ofNat 8 (w >>> 16), BitVec.ofNat 8 (w >>> 8), BitVec.ofNat 8 w]

/-- Where the bits of a table row stand: an 8-bit row on the command port with no operand bytes, a 32-bit row in the
frame buffer. -/
def tableCode (nbits w : Nat) : Option Code :=
  match nbits with
  | 8 => some (.command (Command.ofWord (BitVec.ofNat 8 w)))
  | 32 => some (.header (headerBytes w))
  | _ => none

/-- What the decoder reads from an instruction whose bits are `w`, numbered as spec/opcode_table.json numbers them. -/
def decodeTableWord (nbits w : Nat) : Option Instr :=
  match tableCode nbits w with
  | some code => (decode code).toOption
  | none => none

end Sys2Proof
end

