-- ==== Sys2Proof/Machine/State.lean ====
section
/-! DEFINITION. The state of the machine as plain data: the block's whole state (10_state.md R20), the host's and the
transport's side of the interface (00_scope.md R14), and what the latest command has shown to the outside. -/

namespace Sys2Proof.Machine

/-! ## The block (10_state.md R20) -/

/-- The block's whole state: the tuple of 10_state.md R20. `CFG_LINE` is hardwired and no state (R30). -/
structure Block where
  /-- S0 `BUF`, the frame buffer; the head of the list is `BUF[0]`, the oldest byte (R21). -/
  buf : List Byte
  /-- S1 `TOTAL_READS` (R23). -/
  totalReads : Counter
  /-- S2 `GOOD_READS` (R24). -/
  goodReads : Counter
  /-- S3 `LINK_OPEN`: the block holds the transport (R26). -/
  linkOpen : Bool
  /-- S4 `CFG_VALID`: an OPEN has stored a configuration (R27). -/
  cfgValid : Bool
  /-- S5 `CFG_PORT` (R28). -/
  cfgPort : PortId
  /-- S6 `CFG_TIMEOUT` (R29). -/
  cfgTimeout : Timeout
  /-- S8 `FAULT`: bit 0 is `BUF_OVF`, bit 1 is `CNT_OVF`, both sticky (R31). -/
  fault : BitVec 2
  deriving DecidableEq, Repr

/-- The block after reset (70_reset_and_hazards.md R160).
DESIGN CHOICE (log entry 1), unsafe: `CFG_PORT` and `CFG_TIMEOUT` are unspecified there; the model names the
values with the number 0. -/
def Block.reset : Block where
  buf := []
  totalReads := 0#32
  goodReads := 0#32
  linkOpen := false
  cfgValid := false
  cfgPort := firstPort
  cfgTimeout := firstTimeout
  fault := 0#2

/-! ## The response record (30_encoding.md R64, R65) -/

/-- The response codes (30_encoding.md R65). `0xF` is reserved and never produced, so it has no name here. -/
inductive ResponseCode where
  | ok
  | pollEmpty
  | pollNoSync
  | pollHeaderWait
  | pollHeaderInvalid
  | pollLengthWait
  | pollChecksumFailed
  | pollDispatched
  | pollLengthUnrecognized
  | pollReopenFailed
  | openError
  | writeErrorPayload
  | writeErrorChecksum
  | illegalCommand
  | unconfigured
  deriving DecidableEq, Repr, Inhabited

/-- The response record (30_encoding.md R64). A field that the command does not produce is absent. -/
structure Response where
  code : ResponseCode
  /-- A copy of `FAULT` after the command. -/
  flt : BitVec 2
  /-- POLL: a transport read fault occurred during this POLL. -/
  rf : Option Bool := none
  /-- POLL with `POLL_DISPATCHED`: the datagram. -/
  dg : Option (List Byte) := none
  /-- CSUM_GEN: the checksum byte. -/
  cs : Option Byte := none
  /-- CSUM_CHECK: the checksum is valid. -/
  ok : Option Bool := none
  /-- GETSTATS: `GOOD_READS`. -/
  good : Option Counter := none
  /-- GETSTATS: `TOTAL_READS`. -/
  total : Option Counter := none
  /-- GETSTATS: the exact percentage, kept as the rational that `pctEncode` is given (43_statistics.md R132). -/
  pct : Option Rat := none
  deriving DecidableEq, Repr, Inhabited

/-! ## The transport (20_memory.md R57) -/

/-- A request the block issues to the transport (20_memory.md R57). -/
inductive Request where
  | open (cfg : LinkConfig)
  | read (max : Nat)
  | write (bytes : List Byte)
  | close
  deriving DecidableEq, Repr

/-- The answers the environment will give to the requests of one kind: those listed, in order, then free ones, of which
`drawn` have been given (log entry 5). The model's own field: the answers belong to the environment, not to the block. -/
structure Answers (α : Type) where
  listed : List α
  drawn : Nat
  deriving DecidableEq, Repr, Inhabited

/-- The transport's side: its answers to each kind of request. -/
structure Transport where
  opens : Answers Status
  reads : Answers ReadAnswer
  writes : Answers Status
  closes : Answers Status
  deriving DecidableEq, Repr, Inhabited

/-- A transport with no listed answer, so that every answer is a free value. -/
def Transport.unlisted : Transport where
  opens := { listed := [], drawn := 0 }
  reads := { listed := [], drawn := 0 }
  writes := { listed := [], drawn := 0 }
  closes := { listed := [], drawn := 0 }

/-! ## The host (00_scope.md R3, R14) -/

/-- What the host does at the block's interface: it issues a command, or it resets the block, which is taken only
between commands (70_reset_and_hazards.md R162). -/
inductive HostAction where
  | command (c : Command)
  | reset
  deriving DecidableEq, Repr

/-! ## The machine -/

/-- The machine. `block` is the spec's state; every other field is the model's own and stands for an agent outside the
block (`host`, `transport`) or for what the latest command has shown to the outside (`requests`, `rf`, `response`; log
entry 8). -/
structure State where
  block : Block
  /-- The host's actions still to come, in issue order; the first is at the command port (10_state.md R33). -/
  host : List HostAction
  /-- The transport's answers still to come. -/
  transport : Transport
  /-- The transport requests of the latest command, in issue order (20_memory.md R53). -/
  requests : List Request
  /-- The `rf` of the latest command's POLL: 1 once a read fault has occurred in it (42_poll.md R100, R104). -/
  rf : Bool
  /-- The response of the latest command; absent before the first command and after a reset. -/
  response : Option Response
  deriving DecidableEq, Repr

/-- The machine right after reset (70_reset_and_hazards.md R160, R162): no command is in progress, none is waiting and no
answer is listed. -/
def State.reset : State where
  block := Block.reset
  host := []
  transport := Transport.unlisted
  requests := []
  rf := false
  response := none

/-! ## Why a step can stop -/

/-- The faults of a step: there are none. The block has no traps, and every condition is a response code
(60_exceptions.md R140). The capacity faults and the usage fault of 93_implementation_defined.md I4, I7 and I8 are not
stops: the spec gives each its effect, and `Sys2Proof.Safety` flags them. -/
inductive Fault where
  deriving DecidableEq, Repr

/-- The refusals of a step. -/
inductive Refusal where
  /-- Raised by exec's arm of an instruction that has no meaning yet. Safe: the machine stops. -/
  | notModelled (mnemonic : String)
  /-- Raised by POLL when the transport's answer to `T_Read` has more than `CHUNK_MAX` bytes: the transport has broken its
  duty, and the run "is refused: it is not a run of this spec" (20_memory.md R58; 93_implementation_defined.md I16).
  Safe: no effect is assumed. -/
  | readBeyondChunkMax
  deriving DecidableEq, Repr

end Sys2Proof.Machine
end

