-- ==== Sys2Proof/Machine/Flags.lean ====
section
/-! DEFINITION. The flags and the counters that set them: the sticky `FAULT` bits (10_state.md R31) and the saturating
increments (42_poll.md R122). -/

namespace Sys2Proof.Machine

/-- `FAULT.BUF_OVF` (10_state.md R31). -/
def Block.bufOvf (b : Block) : Bool := b.fault.getLsbD 0

/-- `FAULT.CNT_OVF` (10_state.md R31). -/
def Block.cntOvf (b : Block) : Bool := b.fault.getLsbD 1

/-- `FAULT.BUF_OVF <- 1`. -/
def State.setBufOvf (s : State) : State := { s with block := { s.block with fault := s.block.fault ||| 0b01#2 } }

/-- `FAULT.CNT_OVF <- 1`. -/
def State.setCntOvf (s : State) : State := { s with block := { s.block with fault := s.block.fault ||| 0b10#2 } }

/-- The largest value of a counter, `2^CNT_W − 1`. -/
def counterMax : Counter := 0xFFFFFFFF#32

/-- `IncTotal()` (42_poll.md R122). -/
def incTotal (s : State) : State :=
  if s.block.totalReads = counterMax then s.setCntOvf
  else { s with block := { s.block with totalReads := s.block.totalReads + 1#32 } }

/-- `IncGood()` (42_poll.md R122). -/
def incGood (s : State) : State :=
  if s.block.goodReads = counterMax then s.setCntOvf
  else { s with block := { s.block with goodReads := s.block.goodReads + 1#32 } }

end Sys2Proof.Machine
end

