-- ==== Sys2Proof/Machine/Operands.lean ====
section
/-! DEFINITION. The operand forms: the candidate length that a header carries (30_encoding.md R69) and the numbers of the
response codes (30_encoding.md R65). -/

namespace Sys2Proof.Machine

/-- `L = zext_9(b1) + 3`, exact in 9 bits (30_encoding.md R69; 42_poll.md R112). -/
def candidateLength (b1 : Byte) : Length := b1.zeroExtend 9 + Config.lenBias

/-- The candidate length as a number of bytes, 3 to 258. -/
def frameLength (b1 : Byte) : Nat := (candidateLength b1).toNat

/-- The 4-bit number of a response code (30_encoding.md R65). -/
def codeNumber : ResponseCode → BitVec 4
  | .ok => 0x0#4
  | .pollEmpty => 0x1#4
  | .pollNoSync => 0x2#4
  | .pollHeaderWait => 0x3#4
  | .pollHeaderInvalid => 0x4#4
  | .pollLengthWait => 0x5#4
  | .pollChecksumFailed => 0x6#4
  | .pollDispatched => 0x7#4
  | .pollLengthUnrecognized => 0x8#4
  | .pollReopenFailed => 0x9#4
  | .openError => 0xA#4
  | .writeErrorPayload => 0xB#4
  | .writeErrorChecksum => 0xC#4
  | .illegalCommand => 0xD#4
  | .unconfigured => 0xE#4

/-- The `pct` field as the host sees it: the exact percentage under the open `pctEncode` (43_statistics.md R132). -/
def pctField (r : Response) : Option PctField := r.pct.map Config.pctEncode

end Sys2Proof.Machine
end

