-- ==== Sys2Proof/Machine/Ops.lean ====
section
/-! DEFINITION. The named operations: the primitives of the frame buffer (20_memory.md R43 to R49), the requests to the
transport (R57), the writes of the connection state, ending a command with a response, and raising a condition
(00_scope.md R11; 60_exceptions.md R140, R141). -/

namespace Sys2Proof.Machine

/-! ## The frame buffer -/

/-- The frame buffer keeps its bound, `|BUF| ≤ BUF_CAP` (10_state.md R21). The block has no addressable memory
(20_memory.md R40), so this is the whole form of its one data store. -/
def Memory.wf (buf : List Byte) : Bool := Config.bufFits buf.length

/-- `BUF <- buf`. -/
def State.setBuf (s : State) (buf : List Byte) : State := { s with block := { s.block with buf := buf } }

/-- `BufLen()` (20_memory.md R43). -/
def bufLen (s : State) : Nat := s.block.buf.length

/-- `BufPeek(i)` (20_memory.md R44); absent where the primitive's need `i < |BUF|` is not met. -/
def bufPeek (s : State) (i : Nat) : Option Byte := s.block.buf[i]?

/-- `MemRead(0, n)`, the window `take(n, BUF)` (20_memory.md R45). -/
def memRead (s : State) (n : Nat) : List Byte := s.block.buf.take n

/-- `BufDrop(n)` (20_memory.md R46). -/
def bufDrop (n : Nat) (s : State) : State := s.setBuf (s.block.buf.drop n)

/-- `BufAppend(bytes)` (20_memory.md R47): all of `bytes`, or none of them and `FAULT.BUF_OVF`. -/
def bufAppend (bytes : List Byte) (s : State) : State :=
  if Config.bufFits (bufLen s + bytes.length) then s.setBuf (s.block.buf ++ bytes) else s.setBufOvf

/-- `BufClear()` (20_memory.md R48). -/
def bufClear (s : State) : State := s.setBuf []

/-- `BufFind(v)`: the offset of the first byte equal to `v` (20_memory.md R49). -/
def bufFind (s : State) (v : Byte) : Option Nat := s.block.buf.findIdx? (· == v)

/-! ## The transport -/

/-- The next answer: the first listed one, or the next free one. -/
def Answers.next {α : Type} (free : Nat → α) (q : Answers α) : α := q.listed.head?.getD (free q.drawn)

/-- The answers that remain once the next one has been given. -/
def Answers.rest {α : Type} (q : Answers α) : Answers α :=
  match q.listed with
  | _ :: tail => { q with listed := tail }
  | [] => { q with drawn := q.drawn + 1 }

/-- The answer that the next `T_Open` gets. -/
def State.openAnswer (s : State) : Status := s.transport.opens.next Config.freeOpen

/-- The answer that the next `T_Read` gets. -/
def State.readAnswer (s : State) : ReadAnswer := s.transport.reads.next Config.freeRead

/-- The answer that the next `T_Write` gets. -/
def State.writeAnswer (s : State) : Status := s.transport.writes.next Config.freeWrite

/-- The answer that the next `T_Close` gets. No rule reads it (93_implementation_defined.md I17). -/
def State.closeAnswer (s : State) : Status := s.transport.closes.next Config.freeClose

/-- A request is issued (00_scope.md R12; 20_memory.md R53). -/
def State.issue (s : State) (r : Request) : State := { s with requests := s.requests ++ [r] }

/-- `T_Open` with the stored configuration (20_memory.md R59); its answer is `openAnswer` of the state before. -/
def issueOpen (s : State) : State :=
  { s.issue (.open (Config.linkConfig s.block.cfgPort s.block.cfgTimeout)) with
    transport := { s.transport with opens := s.transport.opens.rest } }

/-- `T_Read(CHUNK_MAX)` (20_memory.md R57); its answer is `readAnswer` of the state before. -/
def issueRead (s : State) : State :=
  { s.issue (.read Config.chunkMax) with transport := { s.transport with reads := s.transport.reads.rest } }

/-- `T_Write(bytes)` (20_memory.md R57); its answer is `writeAnswer` of the state before. -/
def issueWrite (bytes : List Byte) (s : State) : State :=
  { s.issue (.write bytes) with transport := { s.transport with writes := s.transport.writes.rest } }

/-- `T_Close()` (20_memory.md R57); its answer is taken and ignored. -/
def issueClose (s : State) : State :=
  { s.issue .close with transport := { s.transport with closes := s.transport.closes.rest } }

/-! ## The connection state -/

/-- `LINK_OPEN <- held`. -/
def State.setLink (s : State) (held : Bool) : State := { s with block := { s.block with linkOpen := held } }

/-- The transport is released if it is held: `T_Close`, answer ignored, `LINK_OPEN <- 0` (41_connection.md R90, R91;
42_poll.md R104). -/
def releaseLink (s : State) : State := if s.block.linkOpen then (issueClose s).setLink false else s

/-- `CFG_PORT <- port`, `CFG_TIMEOUT <- timeout`, `CFG_VALID <- 1` (41_connection.md R90). -/
def storeConfig (port : PortId) (timeout : Timeout) (s : State) : State :=
  { s with block := { s.block with cfgPort := port, cfgTimeout := timeout, cfgValid := true } }

/-- `rf <- v` (42_poll.md R100). -/
def State.setRf (s : State) (v : Bool) : State := { s with rf := v }

/-! ## Ending a command -/

/-- A command is taken from the port: it starts with no request issued, no read fault and no response. -/
def State.accept (s : State) (rest : List HostAction) : State :=
  { s with host := rest, requests := [], rf := false, response := none }

/-- A command ends with its response (00_scope.md R11; 30_encoding.md R64). -/
def State.respond (s : State) (r : Response) : State := { s with response := some r }

/-- `respond(code, flt = FAULT)` of a command that is no POLL. -/
def respondCode (code : ResponseCode) (s : State) : State := s.respond { code := code, flt := s.block.fault }

/-- `respond(code, rf = rf, flt = FAULT)` of a POLL. -/
def respondPoll (code : ResponseCode) (s : State) : State :=
  s.respond { code := code, flt := s.block.fault, rf := some s.rf }

/-- `respond(code = POLL_DISPATCHED, rf = rf, dg = w, flt = FAULT)` (42_poll.md R117). -/
def respondDatagram (w : List Byte) (s : State) : State :=
  s.respond { code := .pollDispatched, flt := s.block.fault, rf := some s.rf, dg := some w }

/-- Which of SEND's two writes failed (44_send_command.md R136). -/
inductive WriteStage where
  | payload
  | checksum
  deriving DecidableEq, Repr

/-- The conditions that a command's code reports (60_exceptions.md R141). A recovered read fault has no code; it is the
`rf` of the response. -/
inductive Condition where
  | transportOpenError
  | transportReadFault
  | transportWriteError (stage : WriteStage)
  | headerInvalid
  | checksumInvalid
  | unrecognizedLength
  | illegalCommand
  | unconfigured
  deriving DecidableEq, Repr

/-- The code of a condition (60_exceptions.md R141). -/
def conditionCode : Condition → ResponseCode
  | .transportOpenError => .openError
  | .transportReadFault => .pollReopenFailed
  | .transportWriteError .payload => .writeErrorPayload
  | .transportWriteError .checksum => .writeErrorChecksum
  | .headerInvalid => .pollHeaderInvalid
  | .checksumInvalid => .pollChecksumFailed
  | .unrecognizedLength => .pollLengthUnrecognized
  | .illegalCommand => .illegalCommand
  | .unconfigured => .unconfigured

/-- Whether POLL raises the condition (60_exceptions.md R141): "Every `raise` in POLL returns `rf`" (42_poll.md R100). -/
def conditionOfPoll : Condition → Bool
  | .transportReadFault | .headerInvalid | .checksumInvalid | .unrecognizedLength | .unconfigured => true
  | .transportOpenError | .transportWriteError _ | .illegalCommand => false

/-- `raise c`: the one operation by which a condition is taken. It does not trap: it ends the command with the
condition's code, the writes made before it stay made, nothing is saved and no handler runs (00_scope.md R11;
60_exceptions.md R140), so there is no return from it. -/
def raiseCondition (c : Condition) (s : State) : State :=
  s.respond { code := conditionCode c, flt := s.block.fault, rf := if conditionOfPoll c then some s.rf else none }

/-! ## What happens at the port beside the seven commands -/

/-- An illegal command changes no state, issues no request and answers `ILLEGAL_COMMAND` (30_encoding.md R63). -/
def illegalCommand (s : State) : State := raiseCondition .illegalCommand s

/-- The reset event: the block takes its reset values, and no request is issued (70_reset_and_hazards.md R160, R161). -/
def resetBlock (s : State) : State := { s with block := Block.reset }

end Sys2Proof.Machine
end

