-- ==== Sys2Proof/Machine/Connection.lean ====
section
/-! DEFINITION. The connection commands OPEN and CLOSE (41_connection.md). -/

namespace Sys2Proof.Machine

/-- OPEN's single attempt to acquire the transport: on success the link is held and the buffer starts empty
(41_connection.md R90). -/
def acquireLink (s : State) : State :=
  match s.openAnswer with
  | .ok => respondCode .ok (bufClear ((issueOpen s).setLink true))
  | .err => raiseCondition .transportOpenError (issueOpen s)

/-- OPEN (41_connection.md R90): release a held transport, store the configuration, then acquire. -/
def execOpenCmd (port : PortId) (timeout : Timeout) (s : State) : Host.Outcome State Fault Refusal :=
  .next (acquireLink (storeConfig port timeout (releaseLink s)))

/-- CLOSE (41_connection.md R91). -/
def execCloseCmd (s : State) : Host.Outcome State Fault Refusal :=
  .next (respondCode .ok (releaseLink s))

end Sys2Proof.Machine
end

