-- ==== Sys2Proof/Machine/Checksum.lean ====
section
/-! DEFINITION. The Checksum Module: its two pure functions and the commands CSUM_GEN and CSUM_CHECK (40_checksum.md). -/

namespace Sys2Proof.Machine

/-- `sum8(bytes)`, the sum of the bytes modulo 256 (00_scope.md R9). -/
def sum8 : List Byte → Byte
  | [] => 0#8
  | b :: rest => b + sum8 rest

/-- `CsumGen(payload)` = `((sum8(payload) XOR 0xFF) + 1) mod 256` (40_checksum.md R80, R82). -/
def csumGen (payload : List Byte) : Byte := (sum8 payload ^^^ 0xFF#8) + 1#8

/-- `CsumValid(frame)`: `sum8(frame) = 0` (40_checksum.md R81, R82). -/
def csumValid (frame : List Byte) : Bool := sum8 frame == 0#8

/-- The outbound command frame that SEND puts on the line, `P ++ [CSUM_GEN(P)]` (30_encoding.md R72). -/
def outboundFrame (payload : List Byte) : List Byte := payload ++ [csumGen payload]

/-- The frame macro `OPT(p)`, for `|p| = 15` (30_encoding.md R74). -/
def optMacro (p : List Byte) : List Byte := outboundFrame ([0x71#8, 0x11#8, 0x01#8, 0x50#8] ++ p)

/-- The frame macro `DATA(p)`, for `|p| = 198` (30_encoding.md R74). -/
def dataMacro (p : List Byte) : List Byte := outboundFrame ([0x71#8, 0xC8#8, 0x01#8, 0x10#8] ++ p)

/-- CSUM_GEN (40_checksum.md R80). -/
def execCsumGen (payload : List Byte) (s : State) : Host.Outcome State Fault Refusal :=
  .next (s.respond { code := .ok, flt := s.block.fault, cs := some (csumGen payload) })

/-- CSUM_CHECK (40_checksum.md R81). -/
def execCsumCheck (frame : List Byte) (s : State) : Host.Outcome State Fault Refusal :=
  .next (s.respond { code := .ok, flt := s.block.fault, ok := some (csumValid frame) })

end Sys2Proof.Machine
end

