-- ==== Sys2Proof/Machine/Header.lean ====
section
/-! DEFINITION. The six frame-header rows: what POLL does with the frame at the head of `BUF` once its header is
recognised, stages 5 to 7 of 42_poll.md R100 (R113 to R118). The block runs them inside POLL only (log entry 9). -/

namespace Sys2Proof.Machine

/-- Stage 7 (42_poll.md R117, R118): the consumed frame `w` is returned if its length is 20 or 203. -/
def dispatchFrame (w : List Byte) (len : Nat) (s : State) : State :=
  if len = Config.lenOpt ∨ len = Config.lenData then respondDatagram w s
  else raiseCondition .unrecognizedLength s

/-- Stage 6 (42_poll.md R114 to R116): count the attempt, validate the window of `len` bytes, and consume the sync byte or
the whole frame. -/
def validateFrame (len : Nat) (s : State) : State :=
  let w := memRead s len
  if csumValid w then dispatchFrame w len (bufDrop len (incGood (incTotal s)))
  else raiseCondition .checksumInvalid (bufDrop 1 (incTotal s))

/-- Stages 5 to 7 of a frame whose header byte 1 is `b1` (42_poll.md R112 to R118). -/
def assembleFrame (b1 : Byte) (s : State) : State :=
  if bufLen s < frameLength b1 then respondPoll .pollLengthWait s else validateFrame (frameLength b1) s

/-- HDR_OPT_STD: a frame of 20 bytes (30_encoding.md R70). -/
def execHdrOptStd (s : State) : Host.Outcome State Fault Refusal := .next (assembleFrame 0x11#8 s)

/-- HDR_DATA_STD: a frame of 203 bytes (30_encoding.md R70). -/
def execHdrDataStd (s : State) : Host.Outcome State Fault Refusal := .next (assembleFrame 0xC8#8 s)

/-- HDR_DATA_LEN20: a frame of 20 bytes under the data kind (30_encoding.md R70; 90_conflicts.md C3). -/
def execHdrDataLen20 (s : State) : Host.Outcome State Fault Refusal := .next (assembleFrame 0x11#8 s)

/-- HDR_OPT_LEN203: a frame of 203 bytes under the optional kind (30_encoding.md R70; 90_conflicts.md C3). -/
def execHdrOptLen203 (s : State) : Host.Outcome State Fault Refusal := .next (assembleFrame 0xC8#8 s)

/-- HDR_OPT_OTHER: a frame of `b1 + 3` bytes (30_encoding.md R70; 90_conflicts.md C2). -/
def execHdrOptOther (b1 : Byte) (s : State) : Host.Outcome State Fault Refusal := .next (assembleFrame b1 s)

/-- HDR_DATA_OTHER: a frame of `b1 + 3` bytes (30_encoding.md R70; 90_conflicts.md C2). -/
def execHdrDataOther (b1 : Byte) (s : State) : Host.Outcome State Fault Refusal := .next (assembleFrame b1 s)

/-- POLL runs the row of the header class it has decoded. -/
def runHeader (c : HeaderClass) (s : State) : Host.Outcome State Fault Refusal :=
  match c with
  | .optStd => execHdrOptStd s
  | .dataStd => execHdrDataStd s
  | .dataLen20 => execHdrDataLen20 s
  | .optLen203 => execHdrOptLen203 s
  | .optOther b1 => execHdrOptOther b1 s
  | .dataOther b1 => execHdrDataOther b1 s

end Sys2Proof.Machine
end

