-- ==== Sys2Proof/Machine/Poll.lean ====
section
/-! DEFINITION. The command POLL (42_poll.md R100): stages 0 to 4; the rows of Machine/Header.lean are its stages 5
to 7. -/

namespace Sys2Proof.Machine

/-- Stages 3 and 4 with the sync byte at the head of `BUF` (42_poll.md R110, R111): wait for the header, drop the sync
byte of an invalid one, or run the row of its class. -/
def parseHeader (s : State) : Host.Outcome State Fault Refusal :=
  match decodeHeader s.block.buf with
  | .ok c => runHeader c s
  | .error .headerShort => .next (respondPoll .pollHeaderWait s)
  | .error _ => .next (raiseCondition .headerInvalid (bufDrop 1 s))

/-- Stages 2 to 7 (42_poll.md R107 to R118). -/
def parseBuffer (s : State) : Host.Outcome State Fault Refusal :=
  if bufLen s = 0 then .next (respondPoll .pollEmpty s)
  else match bufFind s Config.sync with
    | none => .next (respondPoll .pollNoSync s)
    | some i => parseHeader (bufDrop i s)

/-- The recovery from a read fault (42_poll.md R104 to R106): close, reopen once, and on success go on to stage 2. -/
def recoverLink (s : State) : Host.Outcome State Fault Refusal :=
  let s := releaseLink (s.setRf true)
  match s.openAnswer with
  | .ok => parseBuffer ((issueOpen s).setLink true)
  | .err => .next (raiseCondition .transportReadFault (issueOpen s))

/-- Stage 1 after the transport has answered the read (42_poll.md R102). -/
def ingest (a : ReadAnswer) (s : State) : Host.Outcome State Fault Refusal :=
  match a.status with
  | .ok => parseBuffer (bufAppend a.bytes s)
  | .eof => parseBuffer (bufAppend a.bytes s)
  | .err => recoverLink (if Config.faultAppend then bufAppend a.bytes s else s)

/-- Stages 0 and 1 (42_poll.md R101 to R103), from `rf = 0`. An answer to the read that breaks the transport's duty
`|c| ≤ CHUNK_MAX` is refused: it is not a run of this spec (93_implementation_defined.md I16). -/
def pollStages (s : State) : Host.Outcome State Fault Refusal :=
  if s.block.cfgValid then
    if s.block.linkOpen then
      if s.readAnswer.bytes.length ≤ Config.chunkMax then ingest s.readAnswer (issueRead s)
      else .refused .readBeyondChunkMax
    else recoverLink s
  else .next (raiseCondition .unconfigured s)

/-- POLL (42_poll.md R100). -/
def execPoll (s : State) : Host.Outcome State Fault Refusal := pollStages (s.setRf false)

end Sys2Proof.Machine
end

