-- ==== Sys2Proof/Machine/Send.lean ====
section
/-! DEFINITION. The command SEND (44_send_command.md). -/

namespace Sys2Proof.Machine

/-- SEND's second write, of the checksum byte `cs` (44_send_command.md R135). -/
def sendChecksum (cs : Byte) (s : State) : State :=
  match s.writeAnswer with
  | .ok => respondCode .ok (issueWrite [cs] s)
  | .err => raiseCondition (.transportWriteError .checksum) (issueWrite [cs] s)

/-- SEND's first write, of the payload, and on success the second (44_send_command.md R135). -/
def sendPayload (payload : List Byte) (s : State) : State :=
  match s.writeAnswer with
  | .ok => sendChecksum (csumGen payload) (issueWrite payload s)
  | .err => raiseCondition (.transportWriteError .payload) (issueWrite payload s)

/-- SEND (44_send_command.md R135): with no transport held the payload write has failed and none is issued. -/
def execSend (payload : List Byte) (s : State) : Host.Outcome State Fault Refusal :=
  .next (if s.block.linkOpen then sendPayload payload s
    else raiseCondition (.transportWriteError .payload) s)

end Sys2Proof.Machine
end

