-- ==== Sys2Proof/Machine/Statistics.lean ====
section
/-! DEFINITION. The command GETSTATS (43_statistics.md). -/

namespace Sys2Proof.Machine

/-- `PctExact(g, t)`: the exact rational `g / t × 100`, and 0 when `t = 0` (43_statistics.md R131). -/
def pctExact (g t : Counter) : Rat :=
  if t = 0#32 then 0 else (g.toNat : Rat) / (t.toNat : Rat) * 100

/-- GETSTATS (43_statistics.md R130). -/
def execGetstats (s : State) : Host.Outcome State Fault Refusal :=
  .next (s.respond {
    code := .ok
    flt := s.block.fault
    good := some s.block.goodReads
    total := some s.block.totalReads
    pct := some (pctExact s.block.goodReads s.block.totalReads) })

end Sys2Proof.Machine
end

