-- ==== Sys2Proof/Machine/Dispatch.lean ====
section
/-! DEFINITION. One arm per row of spec/opcode_table.json. -/

namespace Sys2Proof.Machine

def exec (i : Instr) (s : State) : Host.Outcome State Fault Refusal :=
  match i with
  -- the commands of the command port (30_encoding.md R61)
  | .openCmd port timeout => Sys2Proof.Machine.execOpenCmd port timeout s
  | .closeCmd => Sys2Proof.Machine.execCloseCmd s
  | .poll => Sys2Proof.Machine.execPoll s
  | .getstats => Sys2Proof.Machine.execGetstats s
  | .send payload => Sys2Proof.Machine.execSend payload s
  | .csumGen payload => Sys2Proof.Machine.execCsumGen payload s
  | .csumCheck frame => Sys2Proof.Machine.execCsumCheck frame s
  -- the frame-header rows that POLL runs (30_encoding.md R70)
  | .hdrOptStd => Sys2Proof.Machine.execHdrOptStd s
  | .hdrDataStd => Sys2Proof.Machine.execHdrDataStd s
  | .hdrDataLen20 => Sys2Proof.Machine.execHdrDataLen20 s
  | .hdrOptLen203 => Sys2Proof.Machine.execHdrOptLen203 s
  | .hdrOptOther b1 => Sys2Proof.Machine.execHdrOptOther b1 s
  | .hdrDataOther b1 => Sys2Proof.Machine.execHdrDataOther b1 s

end Sys2Proof.Machine
end

