-- ==== Sys2Proof/Machine/Step.lean ====
section
/-! DEFINITION. One step of the machine: the host's next action (20_memory.md R52), and where an instruction's bits are
placed for the next step to run it. -/

namespace Sys2Proof.Machine

/-- The command at the port runs to completion, or is illegal (00_scope.md R3; 30_encoding.md R63). -/
def runCommand (c : Command) (s : State) : Host.Outcome State Fault Refusal :=
  match decodeCommand c with
  | .ok i => exec i s
  | .error _ => .next (illegalCommand s)

/-- One step: one command, one reset between commands, or nothing while the host issues nothing (20_memory.md R52;
70_reset_and_hazards.md R162; 60_exceptions.md R155). -/
def step (s : State) : Host.Outcome State Fault Refusal :=
  match s.host with
  | [] => .next s
  | .command c :: rest => runCommand c (s.accept rest)
  | .reset :: rest => .next (resetBlock (s.accept rest))

/-- The state in which the next step runs the instruction that `code` holds. A command is put at the port. A header is
written over the first four bytes of `BUF`, the one place it is decoded from, and the host issues the POLL that decodes
it: configured, with the transport held, and with a read that delivers no byte (log entry 10). -/
def placeCode (s : State) : Code → State
  | .command c => { s with host := .command c :: s.host }
  | .header bytes =>
    { s with
      block := { s.block with buf := bytes ++ s.block.buf.drop Config.hdrLen, cfgValid := true, linkOpen := true }
      host := .command (Command.ofWord 0x03#8) :: s.host
      transport := { s.transport with reads :=
        { s.transport.reads with listed := { bytes := [], status := .ok } :: s.transport.reads.listed } } }

/-- `s` with the instruction of a table row placed where the next step runs it. -/
def State.withFetchWord (s : State) (nbits w : Nat) : State :=
  match tableCode nbits w with
  | some code => placeCode s code
  | none => s

end Sys2Proof.Machine
end

