-- ==== Sys2Proof/Safety.lean ====
section
/-! DEFINITION. What counts as a safe run, and the terms in which statements are made. The terms repeat the spec's words
over plain numbers and lists and do not use the meanings of Machine/. -/

namespace Sys2Proof

open Sys2Proof.Machine

/-! ## Safe states and safe answers -/

/-- The invariant of the block: `BUF` within its capacity (10_state.md R21), `GOOD_READS ≤ TOTAL_READS` (R25), and the
transport held only with a stored configuration (from R26, R27). -/
def Machine.Block.Inv (b : Block) : Prop :=
  b.buf.length ≤ Config.bufCap ∧ b.goodReads ≤ b.totalReads ∧ (b.linkOpen = true → b.cfgValid = true)

/-- No capacity fault has occurred: `BUF` is a faithful copy of the stream and the counters count every read. A proof of
the source's own properties assumes this (93_implementation_defined.md I7, I8). -/
def Faithful (s : State) : Prop := s.block.fault = 0#2

/-- The command just run was a usage fault of the host: a POLL before any OPEN (93_implementation_defined.md I4). -/
def UsageFault (s : State) : Prop := ∃ r, s.response = some r ∧ r.code = .unconfigured

/-- The transport keeps its duty on the next read, `|c| ≤ CHUNK_MAX` (20_memory.md R58). -/
def KeepsReadDuty (s : State) : Prop := s.readAnswer.bytes.length ≤ 1024

/-- The next POLL at `s` reads the bytes `c` with no fault (42_poll.md R102). -/
def ReadsChunk (s : State) (c : List Byte) : Prop :=
  s.block.cfgValid = true ∧ s.block.linkOpen = true ∧ c.length ≤ 1024 ∧
    (s.readAnswer = { bytes := c, status := .ok } ∨ s.readAnswer = { bytes := c, status := .eof })

/-- A read fault occurs in the next POLL at `s` (42_poll.md R104). -/
def ReadFaults (s : State) : Prop :=
  s.block.cfgValid = true ∧
    (s.block.linkOpen = false ∨ (KeepsReadDuty s ∧ s.readAnswer.status = .err))

/-- A command word is illegal, on its bits: `OPC = bits [2:0]`, `RSV = bits [7:3]` (30_encoding.md R60, R63). -/
def Illegal (c : Command) : Prop :=
  c.word.toNat % 8 = 0 ∨ c.word.toNat / 8 ≠ 0 ∨
    (5 ≤ c.word.toNat % 8 ∧ Config.maxOperandLen < c.bytes.length)

/-- The block after `BufAppend(bytes)` (20_memory.md R47; bit 0 of `FAULT` is `BUF_OVF`, 10_state.md R31). -/
def appended (bytes : List Byte) (b : Block) : Block :=
  if b.buf.length + bytes.length ≤ Config.bufCap then { b with buf := b.buf ++ bytes }
  else { b with fault := b.fault ||| 0b01#2 }

/-- The block when the recovery from a read fault starts: the bytes of a faulting read are appended only under
`FAULT_APPEND`, and a POLL that holds no transport has read none (42_poll.md R102, R103). -/
def faulted (s : State) : Block :=
  if s.block.linkOpen = true ∧ Config.faultAppend = true then appended s.readAnswer.bytes s.block else s.block

/-! ## Frames -/

/-- The sum of the bytes as natural numbers. -/
def byteSum (bytes : List Byte) : Nat := (bytes.map BitVec.toNat).sum

/-- A kind byte of a valid header: optional or data (30_encoding.md R70). -/
def KindByte (b3 : Byte) : Prop := b3 = 0x50#8 ∨ b3 = 0x10#8

/-- `g` holds no sync byte. -/
def NoSync (g : List Byte) : Prop := ∀ b ∈ g, b ≠ 0x71#8

/-- A whole frame with a valid header, the length its header gives, and a checksum that sums to zero
(30_encoding.md R66, R69, R70, R73). -/
def WholeFrame (f : List Byte) : Prop :=
  ∃ b1 b3 tail, f = 0x71#8 :: b1 :: 0x01#8 :: b3 :: tail ∧ KindByte b3 ∧ f.length = b1.toNat + 3 ∧ byteSum f % 256 = 0

/-- A frame that POLL returns as a datagram: a whole frame of 20 or 203 bytes (42_poll.md R117). -/
def Datagram (f : List Byte) : Prop := WholeFrame f ∧ (f.length = 20 ∨ f.length = 203)

/-- The frame length that a frame-header row stands for (30_encoding.md R70). -/
def rowLength : Instr → Option Nat
  | .hdrOptStd => some 20
  | .hdrDataStd => some 203
  | .hdrDataLen20 => some 20
  | .hdrOptLen203 => some 203
  | .hdrOptOther b1 => some (b1.toNat + 3)
  | .hdrDataOther b1 => some (b1.toNat + 3)
  | .openCmd _ _ | .closeCmd | .poll | .getstats | .send _ | .csumGen _ | .csumCheck _ => none

/-! ## Counters and codes -/

/-- A saturating increment of a counter (42_poll.md R122). -/
def countUp (x : Counter) : Counter := if x.toNat = 2 ^ 32 - 1 then x else x + 1#32

/-- `FAULT` after an increment of the counter `x` (42_poll.md R122; bit 1 is `CNT_OVF`, 10_state.md R31). -/
def flagUp (x : Counter) (fault : BitVec 2) : BitVec 2 := if x.toNat = 2 ^ 32 - 1 then fault ||| 0b10#2 else fault

/-- The codes of a POLL (42_poll.md R119). -/
def pollCodes : List ResponseCode :=
  [.unconfigured, .pollReopenFailed, .pollEmpty, .pollNoSync, .pollHeaderWait, .pollHeaderInvalid, .pollLengthWait,
    .pollChecksumFailed, .pollDispatched, .pollLengthUnrecognized]

/-- The codes with which a POLL defers to more data (42_poll.md R121). -/
def waitCodes : List ResponseCode := [.pollEmpty, .pollNoSync, .pollHeaderWait, .pollLengthWait]

/-- Which fields the response of an instruction carries (30_encoding.md R64). -/
def ResponseShape (i : Instr) (r : Response) : Prop :=
  match i with
  | .openCmd _ _ | .closeCmd | .send _ =>
    r.rf = none ∧ r.dg = none ∧ r.cs = none ∧ r.ok = none ∧ r.good = none ∧ r.total = none ∧ r.pct = none
  | .getstats =>
    r.rf = none ∧ r.dg = none ∧ r.cs = none ∧ r.ok = none ∧ r.good ≠ none ∧ r.total ≠ none ∧ r.pct ≠ none
  | .csumGen _ =>
    r.rf = none ∧ r.dg = none ∧ r.cs ≠ none ∧ r.ok = none ∧ r.good = none ∧ r.total = none ∧ r.pct = none
  | .csumCheck _ =>
    r.rf = none ∧ r.dg = none ∧ r.cs = none ∧ r.ok ≠ none ∧ r.good = none ∧ r.total = none ∧ r.pct = none
  | .poll | .hdrOptStd | .hdrDataStd | .hdrDataLen20 | .hdrOptLen203 | .hdrOptOther _ | .hdrDataOther _ =>
    r.rf ≠ none ∧ (r.dg ≠ none ↔ r.code = .pollDispatched) ∧ (∀ d, r.dg = some d → d.length = 20 ∨ d.length = 203) ∧
      r.cs = none ∧ r.ok = none ∧ r.good = none ∧ r.total = none ∧ r.pct = none

/-- The response of a POLL that returns no datagram, from state `s`. -/
def pollResponse (code : ResponseCode) (s : State) : Response :=
  { code := code, flt := s.block.fault, rf := some s.rf }

/-- The host issues POLL, command word `0x03`. -/
def pollAction : HostAction := .command (Command.ofWord 0x03#8)

/-- The answer of a transport that has nothing to deliver. -/
def emptyRead : ReadAnswer := { bytes := [], status := .ok }

/-- `n` steps of the machine. -/
def runSteps : Nat → State → Host.Outcome State Fault Refusal
  | 0, s => .next s
  | n + 1, s =>
    match step s with
    | .next t => runSteps n t
    | .fault r => .fault r
    | .refused r => .refused r

end Sys2Proof
end

