-- ==== Sys2Proof/Certificates/Slice0/Obligations.lean ====
section
/-! DEFINITION. The statements for the provers. Each docstring names the rule of spec/ it formalises. A `{ s with … }` on
the right of `.next` says the whole next state, so it is the frame as well: what it does not name is unchanged. -/

open Sys2Proof Sys2Proof.Machine

/-! ## Reset and the step -/

/-- 70_reset_and_hazards.md R160, R161: the reset values of every element that has one, at `State.reset` and after a reset
event taken in any state, which issues no transport request. `CFG_PORT` and `CFG_TIMEOUT` are unspecified at reset, so
there is no clause for them. That the reset event leaves the transport's answers and the host's later actions as they are
is the model's reading (log entry 13, DEDUCED), and that the list of requests is cleared is its choice (log entry 8,
DESIGN CHOICE). -/
def Obligations.ResetSetsEveryElement : Prop :=
  (State.reset.block.buf = [] ∧ State.reset.block.totalReads = 0#32 ∧ State.reset.block.goodReads = 0#32 ∧
    State.reset.block.linkOpen = false ∧ State.reset.block.cfgValid = false ∧ State.reset.block.fault = 0#2) ∧
  ∀ (s : State) (rest : List HostAction), s.host = .reset :: rest →
    ∃ t, step s = .next t ∧ t.block.buf = [] ∧ t.block.totalReads = 0#32 ∧ t.block.goodReads = 0#32 ∧
      t.block.linkOpen = false ∧ t.block.cfgValid = false ∧ t.block.fault = 0#2 ∧
      t.requests = [] ∧ t.transport = s.transport ∧ t.host = rest

/-- 00_scope.md R3, 20_memory.md R52, 60_exceptions.md R155: when the command at the port decodes to `i`, a step is `exec i` of
the state with the command taken from the port; when the host issues nothing, a step changes nothing (the model's choice,
log entry 8). -/
def Obligations.StepRunsDecodedCommand : Prop :=
  (∀ (s : State) (c : Command) (rest : List HostAction) (i : Instr),
    s.host = .command c :: rest → decodeCommand c = .ok i →
      step s = exec i { s with host := rest, requests := [], rf := false, response := none }) ∧
  ∀ s : State, s.host = [] → step s = .next s

/-- 00_scope.md R3, 60_exceptions.md R140, 20_memory.md R58: every host action completes, in every state where the transport
keeps its duty on the next read, which is asked only where a POLL would read: configured, with the transport held. -/
def Obligations.StepAlwaysAnswers : Prop :=
  ∀ s : State, (s.block.cfgValid = true → s.block.linkOpen = true → KeepsReadDuty s) → ∃ t, step s = .next t

/-- 30_encoding.md R63: an illegal command changes nothing of the block, issues no request and answers `0xD`; and a command is
either illegal or one of the seven. That the operand lines an opcode does not take cannot make a command illegal is the
model's choice (log entry 6, DESIGN CHOICE), and so is that `requests` and `rf` are cleared (log entry 8, DESIGN
CHOICE). -/
def Obligations.IllegalCommandHasNoEffect : Prop :=
  (∀ (s : State) (c : Command) (rest : List HostAction), s.host = .command c :: rest → Illegal c →
    step s = .next { s with
      host := rest
      requests := []
      rf := false
      response := some { code := .illegalCommand, flt := s.block.fault } }) ∧
  codeNumber .illegalCommand = 0xD#4 ∧
  ∀ c : Command, Illegal c ↔ ∀ i, decodeCommand c ≠ .ok i

/-! ## Encodings -/

/-- 30_encoding.md R61: the opcode map, word by word, with any operand within the bound. That the operand lines an opcode does
not take are ignored is the model's choice (log entry 6, DESIGN CHOICE). -/
def Obligations.OpcodeMapDecodes : Prop :=
  ∀ (port : PortId) (timeout : Timeout) (bytes : List Byte), bytes.length ≤ Config.maxOperandLen →
    let word (w : Byte) := decodeCommand { word := w, port := port, timeout := timeout, bytes := bytes }
    word 0x00#8 = .error .reservedOpcode ∧ word 0x01#8 = .ok (.openCmd port timeout) ∧ word 0x02#8 = .ok .closeCmd ∧
      word 0x03#8 = .ok .poll ∧ word 0x04#8 = .ok .getstats ∧ word 0x05#8 = .ok (.send bytes) ∧
      word 0x06#8 = .ok (.csumGen bytes) ∧ word 0x07#8 = .ok (.csumCheck bytes)

/-- 95_test_vectors.md H-1 to H-12 and 30_encoding.md R67, R68: header words written out decode to their class, or to none. -/
def Obligations.HeaderWordsDecode : Prop :=
  decodeTableWord 32 0x71110150 = some .hdrOptStd ∧ decodeTableWord 32 0x71C80110 = some .hdrDataStd ∧
    decodeTableWord 32 0x71110110 = some .hdrDataLen20 ∧ decodeTableWord 32 0x71C80150 = some .hdrOptLen203 ∧
    decodeTableWord 32 0x71020150 = some (.hdrOptOther 0x02#8) ∧
    decodeTableWord 32 0x71FF0110 = some (.hdrDataOther 0xFF#8) ∧
    decodeTableWord 32 0x71110250 = none ∧ decodeTableWord 32 0x71110120 = none ∧
    decodeTableWord 32 0x71115001 = none ∧ decodeTableWord 8 0x03 = some .poll ∧ decodeTableWord 8 0x0B = none

/-- 30_encoding.md R70, 42_poll.md R111: which headers are valid, that b1 is not checked, and that the row of a valid header is
one of length `b1 + 3`; fewer than four bytes are no header. -/
def Obligations.HeaderValidityTest : Prop :=
  (∀ (b0 b1 b2 b3 : Byte) (rest : List Byte),
    ((∃ c, decodeHeader (b0 :: b1 :: b2 :: b3 :: rest) = .ok c) ↔ b0 = 0x71#8 ∧ b2 = 0x01#8 ∧ KindByte b3) ∧
    ∀ c, decodeHeader (b0 :: b1 :: b2 :: b3 :: rest) = .ok c → rowLength c.toInstr = some (b1.toNat + 3)) ∧
  ∀ bytes : List Byte, bytes.length < 4 → decodeHeader bytes = .error .headerShort

/-- 30_encoding.md R71: the header word, and that the decoder's class is the first row of the table that the word matches under
its mask; a header that matches no row is invalid. -/
def Obligations.HeaderRowsFirstMatch : Prop :=
  ∀ b0 b1 b2 b3 : Byte,
    (headerWord b0 b1 b2 b3).toNat = b0.toNat * 2 ^ 24 + b1.toNat * 2 ^ 16 + b2.toNat * 2 ^ 8 + b3.toNat ∧
    ∀ rest : List Byte, (decodeHeader (b0 :: b1 :: b2 :: b3 :: rest)).toOption = firstHeaderRow b0 b1 b2 b3

/-- 30_encoding.md R61, R62, R70: decoding the encoding of a well-formed instruction gives it back, every operand included. -/
def Obligations.EncodeDecodeRoundTrip : Prop :=
  ∀ i : Instr, WellFormed i = true → decode (encode i) = .ok i

/-- 30_encoding.md R60, R61, R62, R63, R70: what is decoded is well-formed, and its encoding has the bits it was decoded from: the
command word with the operand lines that the opcode takes, or the four header bytes. -/
def Obligations.DecodedIsEncodable : Prop :=
  (∀ (c : Command) (i : Instr), decodeCommand c = .ok i →
    WellFormed i = true ∧ ∃ c', encode i = .command c' ∧ c'.word = c.word ∧
      (∀ port timeout, i = .openCmd port timeout → c'.port = c.port ∧ c'.timeout = c.timeout) ∧
      ∀ bytes, i = .send bytes ∨ i = .csumGen bytes ∨ i = .csumCheck bytes → c'.bytes = c.bytes) ∧
  ∀ (bytes : List Byte) (k : HeaderClass), decodeHeader bytes = .ok k →
    WellFormed k.toInstr = true ∧ encode k.toInstr = .header (bytes.take 4)

/-- 30_encoding.md R69: the candidate length is exact in 9 bits. -/
def Obligations.CandidateLengthExact : Prop :=
  ∀ b1 : Byte, (candidateLength b1).toNat = b1.toNat + 3 ∧ 3 ≤ (candidateLength b1).toNat ∧
    (candidateLength b1).toNat ≤ 258

/-- 30_encoding.md R65: the number of every response code; the numbers are distinct, and `0xF` is never one. -/
def Obligations.ResponseCodesDistinct : Prop :=
  codeNumber .ok = 0x0#4 ∧ codeNumber .pollEmpty = 0x1#4 ∧ codeNumber .pollNoSync = 0x2#4 ∧
    codeNumber .pollHeaderWait = 0x3#4 ∧ codeNumber .pollHeaderInvalid = 0x4#4 ∧
    codeNumber .pollLengthWait = 0x5#4 ∧ codeNumber .pollChecksumFailed = 0x6#4 ∧
    codeNumber .pollDispatched = 0x7#4 ∧ codeNumber .pollLengthUnrecognized = 0x8#4 ∧
    codeNumber .pollReopenFailed = 0x9#4 ∧ codeNumber .openError = 0xA#4 ∧
    codeNumber .writeErrorPayload = 0xB#4 ∧ codeNumber .writeErrorChecksum = 0xC#4 ∧
    codeNumber .illegalCommand = 0xD#4 ∧ codeNumber .unconfigured = 0xE#4 ∧
    (∀ c d : ResponseCode, codeNumber c = codeNumber d → c = d) ∧ ∀ c : ResponseCode, codeNumber c ≠ 0xF#4

/-! ## The buffer and the counters -/

/-- 20_memory.md R47: an append is made whole, or it is discarded whole and `BUF_OVF` is set. -/
def Obligations.BufAppendAllOrNothing : Prop :=
  ∀ (bytes : List Byte) (s : State),
    (s.block.buf.length + bytes.length ≤ Config.bufCap →
      bufAppend bytes s = { s with block := { s.block with buf := s.block.buf ++ bytes } }) ∧
    (Config.bufCap < s.block.buf.length + bytes.length →
      bufAppend bytes s = { s with block := { s.block with fault := s.block.fault ||| 0b01#2 } })

/-- 20_memory.md R49: `BufFind` gives the least offset of the byte, or none when no byte is equal to it. -/
def Obligations.BufFindsFirst : Prop :=
  ∀ (s : State) (v : Byte),
    (∀ i, bufFind s v = some i ↔ s.block.buf[i]? = some v ∧ ∀ j < i, s.block.buf[j]? ≠ some v) ∧
    (bufFind s v = none ↔ v ∉ s.block.buf)

/-- 42_poll.md R122: the two increments saturate and set `CNT_OVF`, and together they keep `GOOD_READS ≤ TOTAL_READS`. -/
def Obligations.CountersSaturate : Prop :=
  ∀ s : State,
    (incTotal s = { s with block := { s.block with
      totalReads := countUp s.block.totalReads
      fault := flagUp s.block.totalReads s.block.fault } }) ∧
    (incGood s = { s with block := { s.block with
      goodReads := countUp s.block.goodReads
      fault := flagUp s.block.goodReads s.block.fault } }) ∧
    (s.block.goodReads ≤ s.block.totalReads →
      (incGood (incTotal s)).block.goodReads ≤ (incGood (incTotal s)).block.totalReads)

/-! ## The Checksum Module -/

/-- 40_checksum.md R80: CSUM_GEN, from its command word to its response; no state is written. The decode clause holds whatever the
operand lines that CSUM_GEN does not take carry, which is the model's choice (log entry 6, DESIGN CHOICE). -/
def Obligations.CsumGenResponds : Prop :=
  ∀ (payload : List Byte) (port : PortId) (timeout : Timeout) (s : State),
    decodeCommand { word := 0x06#8, port := port, timeout := timeout, bytes := payload } =
      (if payload.length ≤ Config.maxOperandLen then .ok (.csumGen payload) else .error .operandTooLong) ∧
    exec (.csumGen payload) s = .next { s with
      response := some {
        code := .ok
        flt := s.block.fault
        cs := some (BitVec.ofNat 8 (((byteSum payload % 256) ^^^ 255) + 1)) } }

/-- 40_checksum.md R81: CSUM_CHECK, from its command word to its response; no state is written. The decode clause holds whatever the
operand lines that CSUM_CHECK does not take carry, which is the model's choice (log entry 6, DESIGN CHOICE). -/
def Obligations.CsumCheckResponds : Prop :=
  ∀ (frame : List Byte) (port : PortId) (timeout : Timeout) (s : State),
    decodeCommand { word := 0x07#8, port := port, timeout := timeout, bytes := frame } =
      (if frame.length ≤ Config.maxOperandLen then .ok (.csumCheck frame) else .error .operandTooLong) ∧
    exec (.csumCheck frame) s = .next { s with
      response := some { code := .ok, flt := s.block.fault, ok := some (decide (byteSum frame % 256 = 0)) } }

/-- 40_checksum.md R83: the round-trip law, and the send checksum as `(256 − sum8(P)) mod 256`. -/
def Obligations.ChecksumRoundTrip : Prop :=
  ∀ payload : List Byte, csumValid (payload ++ [csumGen payload]) = true ∧
    (csumGen payload).toNat = (256 - byteSum payload % 256) % 256

/-- 40_checksum.md R84: one changed byte is always detected; a permutation never is; two changes that cancel modulo 256 are
not. -/
def Obligations.ChecksumErrorDetection : Prop :=
  (∀ (pre post : List Byte) (b b' : Byte), csumValid (pre ++ b :: post) = true → b ≠ b' →
    csumValid (pre ++ b' :: post) = false) ∧
  (∀ f g : List Byte, f.Perm g → csumValid g = csumValid f) ∧
  ∀ (pre mid post : List Byte) (x y x' y' : Byte), csumValid (pre ++ x :: (mid ++ y :: post)) = true →
    (x.toNat + y.toNat) % 256 = (x'.toNat + y'.toNat) % 256 →
    csumValid (pre ++ x' :: (mid ++ y' :: post)) = true

/-! ## The connection -/

/-- 41_connection.md R90: OPEN, from its command word to its response: a held transport is closed first, the configuration is
stored, one `T_Open` is issued, and only its success clears `BUF` and takes the transport.
The decode clause holds whatever the operand lines that OPEN does not take carry, which is the model's choice (log
entry 6, DESIGN CHOICE). -/
def Obligations.OpenStoresAndAcquires : Prop :=
  ∀ (port : PortId) (timeout : Timeout) (bytes : List Byte) (s : State),
    let requests := s.requests ++ (if s.block.linkOpen = true then [Request.close] else []) ++
      [Request.open { port := port, baud := 9600, parity := .even, stopBits := 1, timeout := timeout }]
    let transport := { s.transport with
      opens := s.transport.opens.rest
      closes := if s.block.linkOpen = true then s.transport.closes.rest else s.transport.closes }
    decodeCommand { word := 0x01#8, port := port, timeout := timeout, bytes := bytes } = .ok (.openCmd port timeout) ∧
    (s.openAnswer = .ok → exec (.openCmd port timeout) s = .next { s with
      block := { s.block with
        buf := []
        linkOpen := true
        cfgValid := true
        cfgPort := port
        cfgTimeout := timeout }
      transport := transport
      requests := requests
      response := some { code := .ok, flt := s.block.fault } }) ∧
    (s.openAnswer = .err → exec (.openCmd port timeout) s = .next { s with
      block := { s.block with
        linkOpen := false
        cfgValid := true
        cfgPort := port
        cfgTimeout := timeout }
      transport := transport
      requests := requests
      response := some { code := .openError, flt := s.block.fault } })

/-- 41_connection.md R91: CLOSE, from its command word to its response: it releases a held transport, is a no-op otherwise, and a
second CLOSE issues nothing.
The decode clause holds whatever the operand lines that CLOSE does not take carry, which is the model's choice (log
entry 6, DESIGN CHOICE). -/
def Obligations.CloseReleases : Prop :=
  (∀ (port : PortId) (timeout : Timeout) (bytes : List Byte),
    decodeCommand { word := 0x02#8, port := port, timeout := timeout, bytes := bytes } = .ok .closeCmd) ∧
  (∀ s : State, s.block.linkOpen = true → exec .closeCmd s = .next { s with
    block := { s.block with linkOpen := false }
    transport := { s.transport with closes := s.transport.closes.rest }
    requests := s.requests ++ [.close]
    response := some { code := .ok, flt := s.block.fault } }) ∧
  (∀ s : State, s.block.linkOpen = false → exec .closeCmd s = .next { s with
    response := some { code := .ok, flt := s.block.fault } }) ∧
  ∀ s t u : State, exec .closeCmd s = .next t → exec .closeCmd t = .next u → u = t

/-- 44_send_command.md R135, R136: SEND, from its command word to its response: the payload and then the checksum are written, the
first failure stops it, and nothing of the block changes.
The decode clause holds whatever the operand lines that SEND does not take carry, which is the model's choice (log
entry 6, DESIGN CHOICE). -/
def Obligations.SendWritesTwice : Prop :=
  ∀ (payload : List Byte) (port : PortId) (timeout : Timeout) (s : State),
    let cs := BitVec.ofNat 8 (((byteSum payload % 256) ^^^ 255) + 1)
    let once := s.transport.writes.rest
    decodeCommand { word := 0x05#8, port := port, timeout := timeout, bytes := payload } =
      (if payload.length ≤ Config.maxOperandLen then .ok (.send payload) else .error .operandTooLong) ∧
    (s.block.linkOpen = false → exec (.send payload) s = .next { s with
      response := some { code := .writeErrorPayload, flt := s.block.fault } }) ∧
    (s.block.linkOpen = true → s.writeAnswer = .err → exec (.send payload) s = .next { s with
      transport := { s.transport with writes := once }
      requests := s.requests ++ [.write payload]
      response := some { code := .writeErrorPayload, flt := s.block.fault } }) ∧
    (s.block.linkOpen = true → s.writeAnswer = .ok → once.next Config.freeWrite = .err →
      exec (.send payload) s = .next { s with
        transport := { s.transport with writes := once.rest }
        requests := s.requests ++ [.write payload, .write [cs]]
        response := some { code := .writeErrorChecksum, flt := s.block.fault } }) ∧
    (s.block.linkOpen = true → s.writeAnswer = .ok → once.next Config.freeWrite = .ok →
      exec (.send payload) s = .next { s with
        transport := { s.transport with writes := once.rest }
        requests := s.requests ++ [.write payload, .write [cs]]
        response := some { code := .ok, flt := s.block.fault } }) ∧
    codeNumber .writeErrorPayload = 0xB#4 ∧ codeNumber .writeErrorChecksum = 0xC#4

/-- 20_memory.md R59: every `T_Open` issued by a command carries the configuration stored when the command ends, with the hardwired
line fields. -/
def Obligations.OpenCarriesStoredConfig : Prop :=
  ∀ (s t : State) (c : Command) (rest : List HostAction) (cfg : LinkConfig),
    s.host = .command c :: rest → step s = .next t → Request.open cfg ∈ t.requests →
      t.block.cfgValid = true ∧
        cfg = {
          port := t.block.cfgPort
          baud := 9600
          parity := .even
          stopBits := 1
          timeout := t.block.cfgTimeout }

/-- 10_state.md R28, R29: while `CFG_VALID` = 0 nothing reads `CFG_PORT` and `CFG_TIMEOUT`: two machines that differ in them only
take steps that differ in them at most, and are equal once they are configured or reset. -/
def Obligations.ConfigUnreadBeforeOpen : Prop :=
  ∀ (s t : State) (port : PortId) (timeout : Timeout), s.block.cfgValid = false → step s = .next t →
    ∃ t', step { s with block := { s.block with cfgPort := port, cfgTimeout := timeout } } = .next t' ∧
      (t' = t ∨ (t.block.cfgValid = false ∧
        t' = { t with block := { t.block with cfgPort := port, cfgTimeout := timeout } }))

/-- 20_memory.md R57, 93_implementation_defined.md I17: the answer of `T_Close` has no effect: two machines that differ in those
answers only take steps that differ in them only. -/
def Obligations.CloseAnswerIgnored : Prop :=
  ∀ (s t : State) (closes : Answers Status), step s = .next t →
    ∃ rest, step { s with transport := { s.transport with closes := closes } } =
      .next { t with transport := { t.transport with closes := rest } }

/-! ## The statistics -/

/-- 43_statistics.md R130, R131, R132: GETSTATS, from its command word to its response; no state is written, and the `pct` field is
the open encoding of the exact percentage.
The decode clause holds whatever the operand lines that GETSTATS does not take carry, which is the model's choice (log
entry 6, DESIGN CHOICE). -/
def Obligations.GetstatsReports : Prop :=
  ∀ (port : PortId) (timeout : Timeout) (bytes : List Byte) (s : State),
    let g := s.block.goodReads
    let t := s.block.totalReads
    let q : Rat := if t = 0#32 then 0 else (g.toNat : Rat) / (t.toNat : Rat) * 100
    let r : Response := {
      code := .ok
      flt := s.block.fault
      good := some g
      total := some t
      pct := some q }
    decodeCommand { word := 0x04#8, port := port, timeout := timeout, bytes := bytes } = .ok .getstats ∧
    exec .getstats s = .next { s with response := some r } ∧ pctField r = some (Config.pctEncode q)

/-- 43_statistics.md R130, R131: with `g ≤ t` the percentage lies in [0, 100]; it is 100 where `g = t > 0`, and 0 exactly where
`g = 0` or `t = 0`. -/
def Obligations.PercentageWithinRange : Prop :=
  ∀ g t : Counter, (g ≤ t → 0 ≤ pctExact g t ∧ pctExact g t ≤ 100) ∧
    (g = t → t ≠ 0#32 → pctExact g t = 100) ∧ (pctExact g t = 0 ↔ g = 0#32 ∨ t = 0#32)

/-! ## POLL: stages 0 and 1 -/

/-- 42_poll.md R101: POLL before any OPEN does nothing but answer `UNCONFIGURED`. -/
def Obligations.PollUnconfigured : Prop :=
  ∀ s : State, s.block.cfgValid = false → exec .poll s = .next { s with
    rf := false
    response := some { code := .unconfigured, flt := s.block.fault, rf := some false } }

/-- 42_poll.md R102: a read answered `OK` or `EOF` is appended, whole or not at all, and POLL goes on to stage 2 with `rf = 0`. -/
def Obligations.PollReadsChunk : Prop :=
  ∀ (s : State) (c : List Byte), ReadsChunk s c → exec .poll s = parseBuffer { s with
    block := appended c s.block
    transport := { s.transport with reads := s.transport.reads.rest }
    requests := s.requests ++ [.read 1024]
    rf := false }

/-- 42_poll.md R103, R104, R105, R106: on a read fault POLL closes a held transport and reopens once with the stored configuration; a
failed reopen ends the POLL with the buffer and the counters kept, and a successful one goes on to stage 2 with
`rf = 1`. -/
def Obligations.PollRecovers : Prop :=
  ∀ s : State, ReadFaults s →
    let cfg : LinkConfig := {
      port := s.block.cfgPort
      baud := 9600
      parity := .even
      stopBits := 1
      timeout := s.block.cfgTimeout }
    let requests := s.requests ++ (if s.block.linkOpen = true then [Request.read 1024, Request.close] else []) ++
      [Request.open cfg]
    let transport := { s.transport with
      opens := s.transport.opens.rest
      reads := if s.block.linkOpen = true then s.transport.reads.rest else s.transport.reads
      closes := if s.block.linkOpen = true then s.transport.closes.rest else s.transport.closes }
    (s.openAnswer = .err → exec .poll s = .next { s with
      block := { faulted s with linkOpen := false }
      transport := transport
      requests := requests
      rf := true
      response := some { code := .pollReopenFailed, flt := (faulted s).fault, rf := some true } }) ∧
    (s.openAnswer = .ok → exec .poll s = parseBuffer { s with
      block := { faulted s with linkOpen := true }
      transport := transport
      requests := requests
      rf := true })

/-- 42_poll.md R127: a read fault never escapes POLL: it answers, with `rf = 1` and exactly one reopen attempt. -/
def Obligations.ReadFaultNeverEscapes : Prop :=
  ∀ s : State, ReadFaults s → s.requests = [] →
    ∃ t r, exec .poll s = .next t ∧ t.response = some r ∧ r.rf = some true ∧
      (t.requests.filter fun q => match q with | .open _ => true | _ => false).length = 1

/-- 20_memory.md R58, 93_implementation_defined.md I16: a read answer of more than `CHUNK_MAX` bytes breaks the transport's duty, and
POLL is refused: it is not a run of the spec. -/
def Obligations.PollRefusesLongRead : Prop :=
  ∀ s : State, s.block.cfgValid = true → s.block.linkOpen = true → 1024 < s.readAnswer.bytes.length →
    exec .poll s = .refused .readBeyondChunkMax

/-! ## POLL: stages 2 to 4. `parseBuffer s` is stages 2 to 7 from the state `s` that stage 1 leaves -/

/-- 42_poll.md R107: an empty buffer ends POLL with `POLL_EMPTY`. -/
def Obligations.PollEmptyStops : Prop :=
  ∀ s : State, s.block.buf = [] → parseBuffer s = .next { s with response := some (pollResponse .pollEmpty s) }

/-- 42_poll.md R108: without a sync byte POLL ends with `POLL_NO_SYNC` and the buffer exactly as it was. -/
def Obligations.PollNoSyncKeepsBuffer : Prop :=
  ∀ s : State, s.block.buf ≠ [] → NoSync s.block.buf →
    parseBuffer s = .next { s with response := some (pollResponse .pollNoSync s) }

/-- 42_poll.md R109: all bytes before the first sync byte are dropped, and the same POLL goes on to stage 3. -/
def Obligations.PollDropsGarbage : Prop :=
  ∀ (s : State) (g tail : List Byte), NoSync g → s.block.buf = g ++ 0x71#8 :: tail →
    parseBuffer s = parseHeader { s with block := { s.block with buf := 0x71#8 :: tail } }

/-- 42_poll.md R110: with fewer than four bytes from the sync byte on, POLL ends with `POLL_HEADER_WAIT`. -/
def Obligations.PollHeaderWait : Prop :=
  ∀ (s : State) (g tail : List Byte), NoSync g → s.block.buf = g ++ 0x71#8 :: tail → tail.length < 3 →
    parseBuffer s = .next { s with
      block := { s.block with buf := 0x71#8 :: tail }
      response := some (pollResponse .pollHeaderWait s) }

/-- 42_poll.md R111: a header is invalid unless `b2 = 0x01` and b3 is a kind byte, whatever b1 says; it costs the sync byte only,
counts nothing and ends POLL with `POLL_HEADER_INVALID`; a valid header does not. -/
def Obligations.PollInvalidHeader : Prop :=
  ∀ (s : State) (g : List Byte) (b1 b2 b3 : Byte) (tail : List Byte), NoSync g →
    s.block.buf = g ++ 0x71#8 :: b1 :: b2 :: b3 :: tail →
    (¬ (b2 = 0x01#8 ∧ KindByte b3) → parseBuffer s = .next { s with
      block := { s.block with buf := b1 :: b2 :: b3 :: tail }
      response := some (pollResponse .pollHeaderInvalid s) }) ∧
    (b2 = 0x01#8 ∧ KindByte b3 →
      ∃ t r, parseBuffer s = .next t ∧ t.response = some r ∧ r.code ≠ .pollHeaderInvalid)

/-- 30_encoding.md R70, 42_poll.md R112: on a valid header POLL runs the table row of its class, of length `b1 + 3`.
That POLL runs a row as an instruction of `exec` is the model's reading (log entry 9, DEDUCED). -/
def Obligations.PollRunsHeaderRow : Prop :=
  ∀ (s : State) (g : List Byte) (b1 b3 : Byte) (tail : List Byte), NoSync g → KindByte b3 →
    s.block.buf = g ++ 0x71#8 :: b1 :: 0x01#8 :: b3 :: tail →
    ∃ c, decodeHeader (0x71#8 :: b1 :: 0x01#8 :: b3 :: tail) = .ok c ∧ rowLength c.toInstr = some (b1.toNat + 3) ∧
      parseBuffer s =
        exec c.toInstr { s with block := { s.block with buf := 0x71#8 :: b1 :: 0x01#8 :: b3 :: tail } }

/-! ## The frame-header rows: stages 5 to 7 -/

/-- 42_poll.md R113: a row whose frame is not yet whole waits, and changes nothing.
That a header row is an instruction with this effect, on any buffer, is the model's reading (log entry 9, DEDUCED). -/
def Obligations.HeaderRowWaits : Prop :=
  ∀ (i : Instr) (len : Nat) (s : State), rowLength i = some len → s.block.buf.length < len →
    exec i s = .next { s with response := some (pollResponse .pollLengthWait s) }

/-- 42_poll.md R114, R115: a whole frame whose bytes do not sum to zero counts as an attempt, costs the sync byte only, and answers
`POLL_CHECKSUM_FAILED`.
That a header row is an instruction with this effect, on any buffer, is the model's reading (log entry 9, DEDUCED). -/
def Obligations.HeaderRowChecksumFails : Prop :=
  ∀ (i : Instr) (len : Nat) (s : State), rowLength i = some len → len ≤ s.block.buf.length →
    byteSum (s.block.buf.take len) % 256 ≠ 0 →
    let fault := flagUp s.block.totalReads s.block.fault
    exec i s = .next { s with
      block := { s.block with
        buf := s.block.buf.drop 1
        totalReads := countUp s.block.totalReads
        fault := fault }
      response := some { code := .pollChecksumFailed, flt := fault, rf := some s.rf } }

/-- 42_poll.md R114, R116, R117: a whole frame of 20 or 203 bytes that sums to zero is counted twice over, consumed, and returned,
whatever its kind.
That a header row is an instruction with this effect, on any buffer, is the model's reading (log entry 9, DEDUCED). -/
def Obligations.HeaderRowDispatches : Prop :=
  ∀ (i : Instr) (len : Nat) (s : State), rowLength i = some len → len ≤ s.block.buf.length →
    byteSum (s.block.buf.take len) % 256 = 0 → len = 20 ∨ len = 203 →
    let fault := flagUp s.block.goodReads (flagUp s.block.totalReads s.block.fault)
    exec i s = .next { s with
      block := { s.block with
        buf := s.block.buf.drop len
        totalReads := countUp s.block.totalReads
        goodReads := countUp s.block.goodReads
        fault := fault }
      response := some {
        code := .pollDispatched
        flt := fault
        rf := some s.rf
        dg := some (s.block.buf.take len) } }

/-- 42_poll.md R114, R116, R118: a whole frame of any other length that sums to zero is counted and consumed, and is not returned.
That a header row is an instruction with this effect, on any buffer, is the model's reading (log entry 9, DEDUCED). -/
def Obligations.HeaderRowUnrecognized : Prop :=
  ∀ (i : Instr) (len : Nat) (s : State), rowLength i = some len → len ≤ s.block.buf.length →
    byteSum (s.block.buf.take len) % 256 = 0 → len ≠ 20 → len ≠ 203 →
    let fault := flagUp s.block.goodReads (flagUp s.block.totalReads s.block.fault)
    exec i s = .next { s with
      block := { s.block with
        buf := s.block.buf.drop len
        totalReads := countUp s.block.totalReads
        goodReads := countUp s.block.goodReads
        fault := fault }
      response := some { code := .pollLengthUnrecognized, flt := fault, rf := some s.rf } }

/-! ## POLL as a whole -/

/-- 42_poll.md R100, R102, R109, R117: a POLL that finds a whole 20-byte or 203-byte frame behind any garbage returns it, consumes
both, and counts one read and one good read. -/
def Obligations.PollReturnsDatagram : Prop :=
  ∀ (s : State) (c g f tail : List Byte), ReadsChunk s c → s.block.buf ++ c = g ++ (f ++ tail) →
    s.block.buf.length + c.length ≤ Config.bufCap → NoSync g → Datagram f →
    let fault := flagUp s.block.goodReads (flagUp s.block.totalReads s.block.fault)
    exec .poll s = .next { s with
      block := { s.block with
        buf := tail
        totalReads := countUp s.block.totalReads
        goodReads := countUp s.block.goodReads
        fault := fault }
      transport := { s.transport with reads := s.transport.reads.rest }
      requests := s.requests ++ [.read 1024]
      rf := false
      response := some { code := .pollDispatched, flt := fault, rf := some false, dg := some f } }

/-- 42_poll.md R119: every POLL ends with exactly one of the ten codes and at most one datagram, and each counter grows by at most
one. -/
def Obligations.PollEndsWithOneCode : Prop :=
  ∀ s : State, (s.block.cfgValid = true → s.block.linkOpen = true → KeepsReadDuty s) →
    ∃ t r, exec .poll s = .next t ∧ t.response = some r ∧ r.code ∈ pollCodes ∧
      (r.dg ≠ none ↔ r.code = .pollDispatched) ∧
      s.block.totalReads.toNat ≤ t.block.totalReads.toNat ∧
      t.block.totalReads.toNat ≤ s.block.totalReads.toNat + 1 ∧
      s.block.goodReads.toNat ≤ t.block.goodReads.toNat ∧
      t.block.goodReads.toNat ≤ s.block.goodReads.toNat + 1

/-- 42_poll.md R120: the bytes that stages 2 to 7 consume, by code; what a datagram's POLL consumes is the garbage and the frame it
returns. -/
def Obligations.PollConsumesByCode : Prop :=
  ∀ s t : State, parseBuffer s = .next t → ∃ r, t.response = some r ∧
    match r.code with
    | .pollEmpty | .pollNoSync => t.block.buf = s.block.buf
    | .pollHeaderWait | .pollLengthWait =>
      ∃ g, NoSync g ∧ s.block.buf = g ++ t.block.buf ∧ t.block.buf.head? = some 0x71#8
    | .pollHeaderInvalid | .pollChecksumFailed => ∃ g, NoSync g ∧ s.block.buf = g ++ 0x71#8 :: t.block.buf
    | .pollDispatched =>
      ∃ g f, NoSync g ∧ Datagram f ∧ s.block.buf = g ++ (f ++ t.block.buf) ∧ r.dg = some f
    | .pollLengthUnrecognized =>
      ∃ g f, NoSync g ∧ WholeFrame f ∧ ¬ Datagram f ∧ s.block.buf = g ++ (f ++ t.block.buf)
    | _ => False

/-- 42_poll.md R129: what stands at the head of the buffer after a POLL that waits. -/
def Obligations.PollHeadInvariants : Prop :=
  ∀ (s t : State) (r : Response), exec .poll s = .next t → t.response = some r →
    (r.code = .pollHeaderWait ∨ r.code = .pollLengthWait → t.block.buf.head? = some 0x71#8) ∧
    (r.code = .pollNoSync → t.block.buf ≠ [] ∧ NoSync t.block.buf) ∧
    (r.code = .pollEmpty → t.block.buf = [])

/-- 42_poll.md R121: POLLs whose reads deliver nothing settle: after `|BUF| + 1` of them each further one gives the same waiting
code and leaves the block unchanged. -/
def Obligations.QuietPollsSettle : Prop :=
  ∀ (s : State) (n : Nat) (actions : List HostAction) (answers : List ReadAnswer),
    s.block.cfgValid = true → s.block.linkOpen = true → s.block.buf.length ≤ Config.bufCap →
    s.host = List.replicate (n + 1) pollAction ++ actions →
    s.transport.reads.listed = List.replicate (n + 1) emptyRead ++ answers →
    s.block.buf.length + 1 ≤ n →
    ∃ t u r r', runSteps n s = .next t ∧ step t = .next u ∧ t.response = some r ∧ u.response = some r' ∧
      r.code ∈ waitCodes ∧ r'.code = r.code ∧ u.block = t.block

/-- 42_poll.md R123: of several adjacent datagrams in the buffer each POLL returns the next one, in order, with reads that
deliver nothing. -/
def Obligations.BacklogReturnedInOrder : Prop :=
  ∀ (s : State) (before after : List (List Byte)) (f tail : List Byte) (actions : List HostAction)
    (answers : List ReadAnswer),
    s.block.cfgValid = true → s.block.linkOpen = true → s.block.buf.length ≤ Config.bufCap →
    (∀ g ∈ before ++ f :: after, Datagram g) →
    s.block.buf = (before ++ f :: after).flatten ++ tail →
    s.host = List.replicate (before.length + 1) pollAction ++ actions →
    s.transport.reads.listed = List.replicate (before.length + 1) emptyRead ++ answers →
    ∃ t, runSteps (before.length + 1) s = .next t ∧
      t.response = some { code := .pollDispatched, flt := t.block.fault, rf := some false, dg := some f } ∧
      t.block.buf = after.flatten ++ tail

/-- 42_poll.md R124: a datagram that arrives in any number of non-empty chunks is returned by the POLL whose read completes it; the POLLs before
wait and count nothing, and that one counts one read and one good read. -/
def Obligations.FragmentsReassemble : Prop :=
  ∀ (s : State) (chunks : List (List Byte)) (last f : List Byte) (actions : List HostAction)
    (answers : List ReadAnswer),
    s.block.cfgValid = true → s.block.linkOpen = true → s.block.buf = [] →
    (∀ c ∈ chunks ++ [last], c ≠ []) → (chunks ++ [last]).flatten = f → Datagram f →
    s.host = List.replicate (chunks.length + 1) pollAction ++ actions →
    s.transport.reads.listed = (chunks ++ [last]).map (fun c => { bytes := c, status := .ok }) ++ answers →
    (∀ k < chunks.length, ∃ t r, runSteps (k + 1) s = .next t ∧ t.response = some r ∧
      (r.code = .pollHeaderWait ∨ r.code = .pollLengthWait) ∧
      t.block.totalReads = s.block.totalReads ∧ t.block.goodReads = s.block.goodReads) ∧
    ∃ t, runSteps (chunks.length + 1) s = .next t ∧
      t.response = some { code := .pollDispatched, flt := t.block.fault, rf := some false, dg := some f } ∧
      t.block.buf = [] ∧ t.block.totalReads = countUp s.block.totalReads ∧
      t.block.goodReads = countUp s.block.goodReads

/-- 42_poll.md R125: the candidate lengths 3, 4 and 5: the first two always fail the checksum as soon as four bytes are buffered,
and the third passes for one last byte, and is then no datagram. -/
def Obligations.ShortLengths : Prop :=
  ∀ (s : State) (b3 b4 : Byte) (tail : List Byte), KindByte b3 →
    (∀ b1 : Byte, b1 = 0x00#8 ∨ b1 = 0x01#8 → s.block.buf = 0x71#8 :: b1 :: 0x01#8 :: b3 :: tail →
      ∃ t r, parseBuffer s = .next t ∧ t.response = some r ∧ r.code = .pollChecksumFailed ∧
        t.block.totalReads = countUp s.block.totalReads) ∧
    (s.block.buf = 0x71#8 :: 0x02#8 :: 0x01#8 :: b3 :: b4 :: tail →
      ∃ t r, parseBuffer s = .next t ∧ t.response = some r ∧
        (r.code = .pollLengthUnrecognized ↔ (b3 = 0x50#8 ∧ b4 = 0x3C#8) ∨ (b3 = 0x10#8 ∧ b4 = 0x7C#8)) ∧
        (r.code = .pollChecksumFailed ↔ ¬ ((b3 = 0x50#8 ∧ b4 = 0x3C#8) ∨ (b3 = 0x10#8 ∧ b4 = 0x7C#8))))

/-- 42_poll.md R126, 40_checksum.md R84: a whole frame with one byte behind its header changed gives `POLL_CHECKSUM_FAILED`, counts
one read and no good read, and costs one byte. (A change of a header byte can instead make the header invalid, or
change the length: R111, R112.) -/
def Obligations.CorruptionDetected : Prop :=
  ∀ (s : State) (f tail : List Byte) (i : Nat) (b : Byte), WholeFrame f → 4 ≤ i → i < f.length → f[i]? ≠ some b →
    s.block.buf = f.set i b ++ tail →
    let fault := flagUp s.block.totalReads s.block.fault
    parseBuffer s = .next { s with
      block := { s.block with
        buf := (f.set i b).drop 1 ++ tail
        totalReads := countUp s.block.totalReads
        fault := fault }
      response := some { code := .pollChecksumFailed, flt := fault, rf := some s.rf } }

/-! ## Whole-machine rules and frames -/

/-- 10_state.md R21, R25, R26, R27: every step keeps the invariant: `BUF` within its capacity, `GOOD_READS ≤ TOTAL_READS`, and the
transport held only with a stored configuration. -/
def Obligations.StepKeepsInvariant : Prop :=
  ∀ s t : State, s.block.Inv → step s = .next t → t.block.Inv

/-- 10_state.md R21, R25: the invariant holds at reset. -/
def Obligations.ResetMeetsInvariant : Prop := State.reset.block.Inv

/-- 10_state.md R31: once set, a bit of `FAULT` stays set until reset. -/
def Obligations.FaultIsSticky : Prop :=
  ∀ s t : State, step s = .next t → (∀ rest, s.host ≠ .reset :: rest) →
    ∀ k, s.block.fault.getLsbD k = true → t.block.fault.getLsbD k = true

/-- 30_encoding.md R64: every instruction that answers gives one response record, whose `flt` is `FAULT` after it and whose fields
are those the table gives it.
R64 gives fields to the seven commands; that a header row answers a response of POLL's shape is the model's reading (log
entry 9, DEDUCED). -/
def Obligations.EveryCommandResponds : Prop :=
  ∀ (i : Instr) (s t : State), exec i s = .next t →
    ∃ r, t.response = some r ∧ r.flt = t.block.fault ∧ ResponseShape i r

/-- 10_state.md R27, R28, R29: only OPEN writes the configuration. -/
def Obligations.OnlyOpenConfigures : Prop :=
  ∀ (i : Instr) (s t : State), exec i s = .next t → (∀ port timeout, i ≠ .openCmd port timeout) →
    t.block.cfgValid = s.block.cfgValid ∧ t.block.cfgPort = s.block.cfgPort ∧
      t.block.cfgTimeout = s.block.cfgTimeout

/-- 10_state.md R21, R23, R24, R31, 60_exceptions.md R152: OPEN, CLOSE, GETSTATS, SEND, CSUM_GEN and CSUM_CHECK write no counter and no
`FAULT` bit, and none of them writes `BUF` but an OPEN that answers `OK`, which clears it. -/
def Obligations.CommandFrame : Prop :=
  ∀ (i : Instr) (s t : State), exec i s = .next t → i ≠ .poll → rowLength i = none →
    t.block.totalReads = s.block.totalReads ∧ t.block.goodReads = s.block.goodReads ∧
      t.block.fault = s.block.fault ∧ t.host = s.host ∧ t.rf = s.rf ∧ t.transport.reads = s.transport.reads ∧
      (t.block.buf = s.block.buf ∨
        (t.block.buf = [] ∧ (∃ port timeout, i = .openCmd port timeout) ∧ ∃ r, t.response = some r ∧ r.code = .ok))

/-- 42_poll.md R100, 20_memory.md R53, R59: what a POLL leaves: the configuration, the host's actions and the answers to writes;
what it requests: with no read, nothing or one open, and with a read, the read alone or the read, a close and one open, the
open always with the stored configuration; and what its buffer holds: a suffix of what was buffered, or, only where a read
was issued, of that with the bytes read. -/
def Obligations.PollFrame : Prop :=
  ∀ s t : State, exec .poll s = .next t →
    let reopen := Request.open {
      port := s.block.cfgPort
      baud := 9600
      parity := .even
      stopBits := 1
      timeout := s.block.cfgTimeout }
    t.block.cfgValid = s.block.cfgValid ∧ t.block.cfgPort = s.block.cfgPort ∧
      t.block.cfgTimeout = s.block.cfgTimeout ∧ t.host = s.host ∧ t.transport.writes = s.transport.writes ∧
      ((t.requests ∈ [s.requests, s.requests ++ [reopen]] ∧ t.block.buf <:+ s.block.buf) ∨
        (t.requests ∈ [s.requests ++ [.read 1024], s.requests ++ [.read 1024, .close, reopen]] ∧
          (t.block.buf <:+ s.block.buf ∨ t.block.buf <:+ s.block.buf ++ s.readAnswer.bytes)))

/-- 42_poll.md R113 to R118: what a frame-header row leaves: everything but `BUF`, the counters, `FAULT` and the response; and it
drops nothing, the sync byte, or the frame.
That a header row is an instruction with this effect, on any buffer, is the model's reading (log entry 9, DEDUCED). -/
def Obligations.HeaderRowFrame : Prop :=
  ∀ (i : Instr) (len : Nat) (s t : State), rowLength i = some len → exec i s = .next t →
    t.block.linkOpen = s.block.linkOpen ∧ t.block.cfgValid = s.block.cfgValid ∧
      t.block.cfgPort = s.block.cfgPort ∧ t.block.cfgTimeout = s.block.cfgTimeout ∧ t.host = s.host ∧
      t.transport = s.transport ∧ t.requests = s.requests ∧ t.rf = s.rf ∧
      (t.block.buf = s.block.buf ∨ t.block.buf = s.block.buf.drop 1 ∨ t.block.buf = s.block.buf.drop len)
end

