-- ==== Sys2Proof/Laws/State.lean ====
section
/-! SUPPORT. One lemma per field per update of the state, each true by unfolding: what an operation writes and what it
leaves. An operation that leaves the whole block has one lemma for `block`. -/

namespace Sys2Proof.Laws

open Sys2Proof.Machine

/-! `setBuf` -/

@[simp] theorem setBuf_buf (s : State) (buf : List Byte) : (s.setBuf buf).block.buf = buf := rfl
@[simp] theorem setBuf_totalReads (s : State) (buf : List Byte) :
    (s.setBuf buf).block.totalReads = s.block.totalReads := rfl
@[simp] theorem setBuf_goodReads (s : State) (buf : List Byte) :
    (s.setBuf buf).block.goodReads = s.block.goodReads := rfl
@[simp] theorem setBuf_linkOpen (s : State) (buf : List Byte) : (s.setBuf buf).block.linkOpen = s.block.linkOpen := rfl
@[simp] theorem setBuf_cfgValid (s : State) (buf : List Byte) : (s.setBuf buf).block.cfgValid = s.block.cfgValid := rfl
@[simp] theorem setBuf_cfgPort (s : State) (buf : List Byte) : (s.setBuf buf).block.cfgPort = s.block.cfgPort := rfl
@[simp] theorem setBuf_cfgTimeout (s : State) (buf : List Byte) :
    (s.setBuf buf).block.cfgTimeout = s.block.cfgTimeout := rfl
@[simp] theorem setBuf_fault (s : State) (buf : List Byte) : (s.setBuf buf).block.fault = s.block.fault := rfl
@[simp] theorem setBuf_host (s : State) (buf : List Byte) : (s.setBuf buf).host = s.host := rfl
@[simp] theorem setBuf_transport (s : State) (buf : List Byte) : (s.setBuf buf).transport = s.transport := rfl
@[simp] theorem setBuf_requests (s : State) (buf : List Byte) : (s.setBuf buf).requests = s.requests := rfl
@[simp] theorem setBuf_rf (s : State) (buf : List Byte) : (s.setBuf buf).rf = s.rf := rfl
@[simp] theorem setBuf_response (s : State) (buf : List Byte) : (s.setBuf buf).response = s.response := rfl

/-! `bufDrop` -/

@[simp] theorem bufDrop_buf (n : Nat) (s : State) : (bufDrop n s).block.buf = s.block.buf.drop n := rfl
@[simp] theorem bufDrop_totalReads (n : Nat) (s : State) : (bufDrop n s).block.totalReads = s.block.totalReads := rfl
@[simp] theorem bufDrop_goodReads (n : Nat) (s : State) : (bufDrop n s).block.goodReads = s.block.goodReads := rfl
@[simp] theorem bufDrop_linkOpen (n : Nat) (s : State) : (bufDrop n s).block.linkOpen = s.block.linkOpen := rfl
@[simp] theorem bufDrop_cfgValid (n : Nat) (s : State) : (bufDrop n s).block.cfgValid = s.block.cfgValid := rfl
@[simp] theorem bufDrop_cfgPort (n : Nat) (s : State) : (bufDrop n s).block.cfgPort = s.block.cfgPort := rfl
@[simp] theorem bufDrop_cfgTimeout (n : Nat) (s : State) : (bufDrop n s).block.cfgTimeout = s.block.cfgTimeout := rfl
@[simp] theorem bufDrop_fault (n : Nat) (s : State) : (bufDrop n s).block.fault = s.block.fault := rfl
@[simp] theorem bufDrop_host (n : Nat) (s : State) : (bufDrop n s).host = s.host := rfl
@[simp] theorem bufDrop_transport (n : Nat) (s : State) : (bufDrop n s).transport = s.transport := rfl
@[simp] theorem bufDrop_requests (n : Nat) (s : State) : (bufDrop n s).requests = s.requests := rfl
@[simp] theorem bufDrop_rf (n : Nat) (s : State) : (bufDrop n s).rf = s.rf := rfl
@[simp] theorem bufDrop_response (n : Nat) (s : State) : (bufDrop n s).response = s.response := rfl

/-! `bufClear` -/

@[simp] theorem bufClear_buf (s : State) : (bufClear s).block.buf = [] := rfl
@[simp] theorem bufClear_totalReads (s : State) : (bufClear s).block.totalReads = s.block.totalReads := rfl
@[simp] theorem bufClear_goodReads (s : State) : (bufClear s).block.goodReads = s.block.goodReads := rfl
@[simp] theorem bufClear_linkOpen (s : State) : (bufClear s).block.linkOpen = s.block.linkOpen := rfl
@[simp] theorem bufClear_cfgValid (s : State) : (bufClear s).block.cfgValid = s.block.cfgValid := rfl
@[simp] theorem bufClear_cfgPort (s : State) : (bufClear s).block.cfgPort = s.block.cfgPort := rfl
@[simp] theorem bufClear_cfgTimeout (s : State) : (bufClear s).block.cfgTimeout = s.block.cfgTimeout := rfl
@[simp] theorem bufClear_fault (s : State) : (bufClear s).block.fault = s.block.fault := rfl
@[simp] theorem bufClear_host (s : State) : (bufClear s).host = s.host := rfl
@[simp] theorem bufClear_transport (s : State) : (bufClear s).transport = s.transport := rfl
@[simp] theorem bufClear_requests (s : State) : (bufClear s).requests = s.requests := rfl
@[simp] theorem bufClear_rf (s : State) : (bufClear s).rf = s.rf := rfl
@[simp] theorem bufClear_response (s : State) : (bufClear s).response = s.response := rfl

/-! `setBufOvf` -/

@[simp] theorem setBufOvf_buf (s : State) : (s.setBufOvf).block.buf = s.block.buf := rfl
@[simp] theorem setBufOvf_totalReads (s : State) : (s.setBufOvf).block.totalReads = s.block.totalReads := rfl
@[simp] theorem setBufOvf_goodReads (s : State) : (s.setBufOvf).block.goodReads = s.block.goodReads := rfl
@[simp] theorem setBufOvf_linkOpen (s : State) : (s.setBufOvf).block.linkOpen = s.block.linkOpen := rfl
@[simp] theorem setBufOvf_cfgValid (s : State) : (s.setBufOvf).block.cfgValid = s.block.cfgValid := rfl
@[simp] theorem setBufOvf_cfgPort (s : State) : (s.setBufOvf).block.cfgPort = s.block.cfgPort := rfl
@[simp] theorem setBufOvf_cfgTimeout (s : State) : (s.setBufOvf).block.cfgTimeout = s.block.cfgTimeout := rfl
@[simp] theorem setBufOvf_fault (s : State) : (s.setBufOvf).block.fault = s.block.fault ||| 0b01#2 := rfl
@[simp] theorem setBufOvf_host (s : State) : (s.setBufOvf).host = s.host := rfl
@[simp] theorem setBufOvf_transport (s : State) : (s.setBufOvf).transport = s.transport := rfl
@[simp] theorem setBufOvf_requests (s : State) : (s.setBufOvf).requests = s.requests := rfl
@[simp] theorem setBufOvf_rf (s : State) : (s.setBufOvf).rf = s.rf := rfl
@[simp] theorem setBufOvf_response (s : State) : (s.setBufOvf).response = s.response := rfl

/-! `setCntOvf` -/

@[simp] theorem setCntOvf_buf (s : State) : (s.setCntOvf).block.buf = s.block.buf := rfl
@[simp] theorem setCntOvf_totalReads (s : State) : (s.setCntOvf).block.totalReads = s.block.totalReads := rfl
@[simp] theorem setCntOvf_goodReads (s : State) : (s.setCntOvf).block.goodReads = s.block.goodReads := rfl
@[simp] theorem setCntOvf_linkOpen (s : State) : (s.setCntOvf).block.linkOpen = s.block.linkOpen := rfl
@[simp] theorem setCntOvf_cfgValid (s : State) : (s.setCntOvf).block.cfgValid = s.block.cfgValid := rfl
@[simp] theorem setCntOvf_cfgPort (s : State) : (s.setCntOvf).block.cfgPort = s.block.cfgPort := rfl
@[simp] theorem setCntOvf_cfgTimeout (s : State) : (s.setCntOvf).block.cfgTimeout = s.block.cfgTimeout := rfl
@[simp] theorem setCntOvf_fault (s : State) : (s.setCntOvf).block.fault = s.block.fault ||| 0b10#2 := rfl
@[simp] theorem setCntOvf_host (s : State) : (s.setCntOvf).host = s.host := rfl
@[simp] theorem setCntOvf_transport (s : State) : (s.setCntOvf).transport = s.transport := rfl
@[simp] theorem setCntOvf_requests (s : State) : (s.setCntOvf).requests = s.requests := rfl
@[simp] theorem setCntOvf_rf (s : State) : (s.setCntOvf).rf = s.rf := rfl
@[simp] theorem setCntOvf_response (s : State) : (s.setCntOvf).response = s.response := rfl

/-! `setLink` -/

@[simp] theorem setLink_buf (s : State) (held : Bool) : (s.setLink held).block.buf = s.block.buf := rfl
@[simp] theorem setLink_totalReads (s : State) (held : Bool) :
    (s.setLink held).block.totalReads = s.block.totalReads := rfl
@[simp] theorem setLink_goodReads (s : State) (held : Bool) :
    (s.setLink held).block.goodReads = s.block.goodReads := rfl
@[simp] theorem setLink_linkOpen (s : State) (held : Bool) : (s.setLink held).block.linkOpen = held := rfl
@[simp] theorem setLink_cfgValid (s : State) (held : Bool) : (s.setLink held).block.cfgValid = s.block.cfgValid := rfl
@[simp] theorem setLink_cfgPort (s : State) (held : Bool) : (s.setLink held).block.cfgPort = s.block.cfgPort := rfl
@[simp] theorem setLink_cfgTimeout (s : State) (held : Bool) :
    (s.setLink held).block.cfgTimeout = s.block.cfgTimeout := rfl
@[simp] theorem setLink_fault (s : State) (held : Bool) : (s.setLink held).block.fault = s.block.fault := rfl
@[simp] theorem setLink_host (s : State) (held : Bool) : (s.setLink held).host = s.host := rfl
@[simp] theorem setLink_transport (s : State) (held : Bool) : (s.setLink held).transport = s.transport := rfl
@[simp] theorem setLink_requests (s : State) (held : Bool) : (s.setLink held).requests = s.requests := rfl
@[simp] theorem setLink_rf (s : State) (held : Bool) : (s.setLink held).rf = s.rf := rfl
@[simp] theorem setLink_response (s : State) (held : Bool) : (s.setLink held).response = s.response := rfl

/-! `storeConfig` -/

@[simp] theorem storeConfig_buf (port : PortId) (timeout : Timeout) (s : State) :
    (storeConfig port timeout s).block.buf = s.block.buf := rfl
@[simp] theorem storeConfig_totalReads (port : PortId) (timeout : Timeout) (s : State) :
    (storeConfig port timeout s).block.totalReads = s.block.totalReads := rfl
@[simp] theorem storeConfig_goodReads (port : PortId) (timeout : Timeout) (s : State) :
    (storeConfig port timeout s).block.goodReads = s.block.goodReads := rfl
@[simp] theorem storeConfig_linkOpen (port : PortId) (timeout : Timeout) (s : State) :
    (storeConfig port timeout s).block.linkOpen = s.block.linkOpen := rfl
@[simp] theorem storeConfig_cfgValid (port : PortId) (timeout : Timeout) (s : State) :
    (storeConfig port timeout s).block.cfgValid = true := rfl
@[simp] theorem storeConfig_cfgPort (port : PortId) (timeout : Timeout) (s : State) :
    (storeConfig port timeout s).block.cfgPort = port := rfl
@[simp] theorem storeConfig_cfgTimeout (port : PortId) (timeout : Timeout) (s : State) :
    (storeConfig port timeout s).block.cfgTimeout = timeout := rfl
@[simp] theorem storeConfig_fault (port : PortId) (timeout : Timeout) (s : State) :
    (storeConfig port timeout s).block.fault = s.block.fault := rfl
@[simp] theorem storeConfig_host (port : PortId) (timeout : Timeout) (s : State) :
    (storeConfig port timeout s).host = s.host := rfl
@[simp] theorem storeConfig_transport (port : PortId) (timeout : Timeout) (s : State) :
    (storeConfig port timeout s).transport = s.transport := rfl
@[simp] theorem storeConfig_requests (port : PortId) (timeout : Timeout) (s : State) :
    (storeConfig port timeout s).requests = s.requests := rfl
@[simp] theorem storeConfig_rf (port : PortId) (timeout : Timeout) (s : State) :
    (storeConfig port timeout s).rf = s.rf := rfl
@[simp] theorem storeConfig_response (port : PortId) (timeout : Timeout) (s : State) :
    (storeConfig port timeout s).response = s.response := rfl

/-! `resetBlock` -/

@[simp] theorem resetBlock_block (s : State) : (resetBlock s).block = Block.reset := rfl
@[simp] theorem resetBlock_host (s : State) : (resetBlock s).host = s.host := rfl
@[simp] theorem resetBlock_transport (s : State) : (resetBlock s).transport = s.transport := rfl
@[simp] theorem resetBlock_requests (s : State) : (resetBlock s).requests = s.requests := rfl
@[simp] theorem resetBlock_rf (s : State) : (resetBlock s).rf = s.rf := rfl
@[simp] theorem resetBlock_response (s : State) : (resetBlock s).response = s.response := rfl

/-! `issue` -/

@[simp] theorem issue_block (s : State) (r : Request) : (s.issue r).block = s.block := rfl
@[simp] theorem issue_host (s : State) (r : Request) : (s.issue r).host = s.host := rfl
@[simp] theorem issue_transport (s : State) (r : Request) : (s.issue r).transport = s.transport := rfl
@[simp] theorem issue_requests (s : State) (r : Request) : (s.issue r).requests = s.requests ++ [r] := rfl
@[simp] theorem issue_rf (s : State) (r : Request) : (s.issue r).rf = s.rf := rfl
@[simp] theorem issue_response (s : State) (r : Request) : (s.issue r).response = s.response := rfl

/-! `issueOpen` -/

@[simp] theorem issueOpen_block (s : State) : (issueOpen s).block = s.block := rfl
@[simp] theorem issueOpen_host (s : State) : (issueOpen s).host = s.host := rfl
@[simp] theorem issueOpen_transport (s : State) : (issueOpen s).transport = 
      { s.transport with opens := s.transport.opens.rest } := rfl
@[simp] theorem issueOpen_requests (s : State) : (issueOpen s).requests = 
      s.requests ++ [.open (Config.linkConfig s.block.cfgPort s.block.cfgTimeout)] := rfl
@[simp] theorem issueOpen_rf (s : State) : (issueOpen s).rf = s.rf := rfl
@[simp] theorem issueOpen_response (s : State) : (issueOpen s).response = s.response := rfl

/-! `issueRead` -/

@[simp] theorem issueRead_block (s : State) : (issueRead s).block = s.block := rfl
@[simp] theorem issueRead_host (s : State) : (issueRead s).host = s.host := rfl
@[simp] theorem issueRead_transport (s : State) : (issueRead s).transport = 
      { s.transport with reads := s.transport.reads.rest } := rfl
@[simp] theorem issueRead_requests (s : State) : (issueRead s).requests = s.requests ++ [.read Config.chunkMax] := rfl
@[simp] theorem issueRead_rf (s : State) : (issueRead s).rf = s.rf := rfl
@[simp] theorem issueRead_response (s : State) : (issueRead s).response = s.response := rfl

/-! `issueWrite` -/

@[simp] theorem issueWrite_block (bytes : List Byte) (s : State) : (issueWrite bytes s).block = s.block := rfl
@[simp] theorem issueWrite_host (bytes : List Byte) (s : State) : (issueWrite bytes s).host = s.host := rfl
@[simp] theorem issueWrite_transport (bytes : List Byte) (s : State) : (issueWrite bytes s).transport = 
      { s.transport with writes := s.transport.writes.rest } := rfl
@[simp] theorem issueWrite_requests (bytes : List Byte) (s : State) :
    (issueWrite bytes s).requests = s.requests ++ [.write bytes] := rfl
@[simp] theorem issueWrite_rf (bytes : List Byte) (s : State) : (issueWrite bytes s).rf = s.rf := rfl
@[simp] theorem issueWrite_response (bytes : List Byte) (s : State) : (issueWrite bytes s).response = s.response := rfl

/-! `issueClose` -/

@[simp] theorem issueClose_block (s : State) : (issueClose s).block = s.block := rfl
@[simp] theorem issueClose_host (s : State) : (issueClose s).host = s.host := rfl
@[simp] theorem issueClose_transport (s : State) : (issueClose s).transport = 
      { s.transport with closes := s.transport.closes.rest } := rfl
@[simp] theorem issueClose_requests (s : State) : (issueClose s).requests = s.requests ++ [.close] := rfl
@[simp] theorem issueClose_rf (s : State) : (issueClose s).rf = s.rf := rfl
@[simp] theorem issueClose_response (s : State) : (issueClose s).response = s.response := rfl

/-! `setRf` -/

@[simp] theorem setRf_block (s : State) (v : Bool) : (s.setRf v).block = s.block := rfl
@[simp] theorem setRf_host (s : State) (v : Bool) : (s.setRf v).host = s.host := rfl
@[simp] theorem setRf_transport (s : State) (v : Bool) : (s.setRf v).transport = s.transport := rfl
@[simp] theorem setRf_requests (s : State) (v : Bool) : (s.setRf v).requests = s.requests := rfl
@[simp] theorem setRf_rf (s : State) (v : Bool) : (s.setRf v).rf = v := rfl
@[simp] theorem setRf_response (s : State) (v : Bool) : (s.setRf v).response = s.response := rfl

/-! `accept` -/

@[simp] theorem accept_block (s : State) (rest : List HostAction) : (s.accept rest).block = s.block := rfl
@[simp] theorem accept_host (s : State) (rest : List HostAction) : (s.accept rest).host = rest := rfl
@[simp] theorem accept_transport (s : State) (rest : List HostAction) : (s.accept rest).transport = s.transport := rfl
@[simp] theorem accept_requests (s : State) (rest : List HostAction) : (s.accept rest).requests = [] := rfl
@[simp] theorem accept_rf (s : State) (rest : List HostAction) : (s.accept rest).rf = false := rfl
@[simp] theorem accept_response (s : State) (rest : List HostAction) : (s.accept rest).response = none := rfl

/-! `respond` -/

@[simp] theorem respond_block (s : State) (r : Response) : (s.respond r).block = s.block := rfl
@[simp] theorem respond_host (s : State) (r : Response) : (s.respond r).host = s.host := rfl
@[simp] theorem respond_transport (s : State) (r : Response) : (s.respond r).transport = s.transport := rfl
@[simp] theorem respond_requests (s : State) (r : Response) : (s.respond r).requests = s.requests := rfl
@[simp] theorem respond_rf (s : State) (r : Response) : (s.respond r).rf = s.rf := rfl
@[simp] theorem respond_response (s : State) (r : Response) : (s.respond r).response = some r := rfl

/-! `respondCode` -/

@[simp] theorem respondCode_block (code : ResponseCode) (s : State) : (respondCode code s).block = s.block := rfl
@[simp] theorem respondCode_host (code : ResponseCode) (s : State) : (respondCode code s).host = s.host := rfl
@[simp] theorem respondCode_transport (code : ResponseCode) (s : State) :
    (respondCode code s).transport = s.transport := rfl
@[simp] theorem respondCode_requests (code : ResponseCode) (s : State) :
    (respondCode code s).requests = s.requests := rfl
@[simp] theorem respondCode_rf (code : ResponseCode) (s : State) : (respondCode code s).rf = s.rf := rfl
@[simp] theorem respondCode_response (code : ResponseCode) (s : State) : (respondCode code s).response = 
      some { code := code, flt := s.block.fault } := rfl

/-! `respondPoll` -/

@[simp] theorem respondPoll_block (code : ResponseCode) (s : State) : (respondPoll code s).block = s.block := rfl
@[simp] theorem respondPoll_host (code : ResponseCode) (s : State) : (respondPoll code s).host = s.host := rfl
@[simp] theorem respondPoll_transport (code : ResponseCode) (s : State) :
    (respondPoll code s).transport = s.transport := rfl
@[simp] theorem respondPoll_requests (code : ResponseCode) (s : State) :
    (respondPoll code s).requests = s.requests := rfl
@[simp] theorem respondPoll_rf (code : ResponseCode) (s : State) : (respondPoll code s).rf = s.rf := rfl
@[simp] theorem respondPoll_response (code : ResponseCode) (s : State) : (respondPoll code s).response = 
      some { code := code, flt := s.block.fault, rf := some s.rf } := rfl

/-! `respondDatagram` -/

@[simp] theorem respondDatagram_block (w : List Byte) (s : State) : (respondDatagram w s).block = s.block := rfl
@[simp] theorem respondDatagram_host (w : List Byte) (s : State) : (respondDatagram w s).host = s.host := rfl
@[simp] theorem respondDatagram_transport (w : List Byte) (s : State) :
    (respondDatagram w s).transport = s.transport := rfl
@[simp] theorem respondDatagram_requests (w : List Byte) (s : State) :
    (respondDatagram w s).requests = s.requests := rfl
@[simp] theorem respondDatagram_rf (w : List Byte) (s : State) : (respondDatagram w s).rf = s.rf := rfl
@[simp] theorem respondDatagram_response (w : List Byte) (s : State) : (respondDatagram w s).response = 
      some { code := .pollDispatched, flt := s.block.fault, rf := some s.rf, dg := some w } := rfl

/-! `raiseCondition` -/

@[simp] theorem raiseCondition_block (c : Condition) (s : State) : (raiseCondition c s).block = s.block := rfl
@[simp] theorem raiseCondition_host (c : Condition) (s : State) : (raiseCondition c s).host = s.host := rfl
@[simp] theorem raiseCondition_transport (c : Condition) (s : State) :
    (raiseCondition c s).transport = s.transport := rfl
@[simp] theorem raiseCondition_requests (c : Condition) (s : State) : (raiseCondition c s).requests = s.requests := rfl
@[simp] theorem raiseCondition_rf (c : Condition) (s : State) : (raiseCondition c s).rf = s.rf := rfl
@[simp] theorem raiseCondition_response (c : Condition) (s : State) : (raiseCondition c s).response = 
      some { code := conditionCode c, flt := s.block.fault, rf := if conditionOfPoll c then some s.rf else none } := rfl

end Sys2Proof.Laws
end

