-- ==== Sys2Proof/Laws/Ops.lean ====
section
/-! SUPPORT. For each shared operation, once, what it can do: the open bounds, the buffer primitives and the form they
keep, the counters, the link, and the end of a command. -/

namespace Sys2Proof.Laws

open Sys2Proof.Machine

/-! ## The open types -/

/-- Every port identifier is the one with its number. -/
theorem portOf_code (p : PortId) : portOf p.code = p := dif_pos p.isPort

/-- Every timeout is the one with its number. -/
theorem timeoutOf_code (t : Timeout) : timeoutOf t.code = t := dif_pos t.isTimeout

/-! ## Open bounds -/

theorem bufFits_iff (n : Nat) : Config.bufFits n = true ↔ n ≤ Config.bufCap := by
  have hmin : Config.bufCapMin ≤ Config.bufCap := Nat.le_add_left _ _
  rw [Config.bufFits, Bool.or_eq_true, decide_eq_true_eq, decide_eq_true_eq]
  omega

theorem operandFits_iff (n : Nat) : Config.operandFits n = true ↔ n ≤ Config.maxOperandLen := by
  have hmin : Config.maxOperandLenMin ≤ Config.maxOperandLen := Nat.le_add_left _ _
  rw [Config.operandFits, Bool.or_eq_true, decide_eq_true_eq, decide_eq_true_eq]
  omega

theorem bufCap_ge : 1281 ≤ Config.bufCap := Nat.le_add_left 1281 Config.bufCapExtra

theorem maxOperandLen_ge : 258 ≤ Config.maxOperandLen := Nat.le_add_left 258 Config.maxOperandLenExtra

theorem freeRead_keeps_duty (n : Nat) : (Config.freeRead n).bytes.length ≤ Config.chunkMax := by
  simp [Config.freeRead]

/-! ## The buffer keeps its form -/

theorem memory_wf_iff (buf : List Byte) : Memory.wf buf = true ↔ buf.length ≤ Config.bufCap := by
  rw [Memory.wf, bufFits_iff]

theorem memory_wf_reset : Memory.wf State.reset.block.buf = true := by decide

theorem bufAppend_cases (bytes : List Byte) (s : State) :
    (bufLen s + bytes.length ≤ Config.bufCap ∧ bufAppend bytes s = s.setBuf (s.block.buf ++ bytes)) ∨
      (Config.bufCap < bufLen s + bytes.length ∧ bufAppend bytes s = s.setBufOvf) := by
  unfold bufAppend
  split
  · exact .inl ⟨(bufFits_iff _).mp ‹_›, rfl⟩
  · refine .inr ⟨?_, rfl⟩
    rw [bufFits_iff] at *
    omega

theorem bufAppend_keeps_wf (bytes : List Byte) (s : State) (h : Memory.wf s.block.buf = true) :
    Memory.wf (bufAppend bytes s).block.buf = true := by
  rcases bufAppend_cases bytes s with ⟨hle, heq⟩ | ⟨-, heq⟩
  · rw [heq, memory_wf_iff, setBuf_buf, List.length_append]
    exact hle
  · rw [heq]
    exact h

theorem bufDrop_keeps_wf (n : Nat) (s : State) (h : Memory.wf s.block.buf = true) :
    Memory.wf (bufDrop n s).block.buf = true := by
  rw [memory_wf_iff] at *
  simp only [bufDrop_buf, List.length_drop]
  omega

theorem bufClear_keeps_wf (s : State) : Memory.wf (bufClear s).block.buf = true := by
  simp [memory_wf_iff]

/-- All that `BufAppend` can do beside writing `BUF` and `FAULT`: nothing. -/
theorem bufAppend_frame (bytes : List Byte) (s : State) :
    (bufAppend bytes s).host = s.host ∧ (bufAppend bytes s).transport = s.transport ∧
      (bufAppend bytes s).requests = s.requests ∧ (bufAppend bytes s).rf = s.rf ∧
      (bufAppend bytes s).response = s.response ∧
      (bufAppend bytes s).block.totalReads = s.block.totalReads ∧
      (bufAppend bytes s).block.goodReads = s.block.goodReads ∧
      (bufAppend bytes s).block.linkOpen = s.block.linkOpen ∧
      (bufAppend bytes s).block.cfgValid = s.block.cfgValid ∧
      (bufAppend bytes s).block.cfgPort = s.block.cfgPort ∧
      (bufAppend bytes s).block.cfgTimeout = s.block.cfgTimeout := by
  rcases bufAppend_cases bytes s with ⟨-, heq⟩ | ⟨-, heq⟩ <;> rw [heq] <;> simp

/-- A sync byte after `g`, which holds none, is the one that `BufFind` finds. -/
theorem bufFind_after (s : State) (v : Byte) (g tail : List Byte) (hg : ∀ b ∈ g, b ≠ v)
    (hbuf : s.block.buf = g ++ v :: tail) : bufFind s v = some g.length := by
  unfold bufFind
  rw [hbuf]
  clear hbuf
  induction g with
  | nil => simp [List.findIdx?_cons]
  | cons b g ih =>
    have hb : (b == v) = false := by simpa using hg b (by simp)
    rw [List.cons_append, List.findIdx?_cons, hb, ih fun c hc => hg c (List.mem_cons_of_mem _ hc)]
    simp

theorem bufFind_none (s : State) (v : Byte) (h : ∀ b ∈ s.block.buf, b ≠ v) : bufFind s v = none := by
  simpa [bufFind, List.findIdx?_eq_none_iff] using h

/-- Where `BufFind` finds `v`, the buffer is bytes other than `v`, then `v`. -/
theorem bufFind_some (s : State) (v : Byte) (i : Nat) (h : bufFind s v = some i) :
    ∃ g tail, s.block.buf = g ++ v :: tail ∧ g.length = i ∧ ∀ b ∈ g, b ≠ v := by
  unfold bufFind at h
  generalize s.block.buf = buf at h
  induction buf generalizing i with
  | nil => simp at h
  | cons b buf ih =>
    rw [List.findIdx?_cons] at h
    by_cases hb : b = v
    · subst hb
      simp only [beq_self_eq_true, if_true, Option.some.injEq] at h
      exact ⟨[], buf, rfl, by simpa using h, by simp⟩
    · have hbv : (b == v) = false := by simpa using hb
      rw [hbv] at h
      simp only [Bool.false_eq_true, if_false, Option.map_eq_some_iff] at h
      obtain ⟨j, hj, rfl⟩ := h
      obtain ⟨g, tail, hbuf, hlen, hg⟩ := ih j hj
      refine ⟨b :: g, tail, by rw [hbuf, List.cons_append], by simp [hlen], ?_⟩
      intro c hc
      rcases List.mem_cons.mp hc with rfl | hc
      · exact hb
      · exact hg c hc

/-! ## The counters -/

theorem incTotal_cases (s : State) :
    (s.block.totalReads = counterMax ∧ incTotal s = s.setCntOvf) ∨
      (s.block.totalReads ≠ counterMax ∧
        incTotal s = { s with block := { s.block with totalReads := s.block.totalReads + 1#32 } }) := by
  unfold incTotal
  split
  · exact .inl ⟨‹_›, rfl⟩
  · exact .inr ⟨‹_›, rfl⟩

theorem incGood_cases (s : State) :
    (s.block.goodReads = counterMax ∧ incGood s = s.setCntOvf) ∨
      (s.block.goodReads ≠ counterMax ∧
        incGood s = { s with block := { s.block with goodReads := s.block.goodReads + 1#32 } }) := by
  unfold incGood
  split
  · exact .inl ⟨‹_›, rfl⟩
  · exact .inr ⟨‹_›, rfl⟩

/-! ## The length, the link, the answers -/

theorem frameLength_eq (b1 : Byte) : frameLength b1 = b1.toNat + 3 := by
  have h := b1.isLt
  have h3 : (3#9 : Length).toNat = 3 := rfl
  simp only [frameLength, candidateLength, Config.lenBias, BitVec.toNat_add, BitVec.truncate_eq_setWidth,
    BitVec.toNat_setWidth, h3]
  omega

theorem releaseLink_held (s : State) (h : s.block.linkOpen = true) :
    releaseLink s = (issueClose s).setLink false := by simp [releaseLink, h]

theorem releaseLink_free (s : State) (h : s.block.linkOpen = false) : releaseLink s = s := by simp [releaseLink, h]

theorem acquireLink_cases (s : State) :
    (s.openAnswer = .ok ∧ acquireLink s = respondCode .ok (bufClear ((issueOpen s).setLink true))) ∨
      (s.openAnswer = .err ∧ acquireLink s = raiseCondition .transportOpenError (issueOpen s)) := by
  unfold acquireLink
  cases s.openAnswer <;> simp

/-! ## The frame at the head of the buffer -/

/-- All that a frame-header row can do, by stage 5 to 7 of POLL. -/
theorem assembleFrame_cases (b1 : Byte) (s : State) :
    (bufLen s < frameLength b1 ∧ assembleFrame b1 s = respondPoll .pollLengthWait s) ∨
      (frameLength b1 ≤ bufLen s ∧ csumValid (s.block.buf.take (frameLength b1)) = false ∧
        assembleFrame b1 s = raiseCondition .checksumInvalid (bufDrop 1 (incTotal s))) ∨
      (frameLength b1 ≤ bufLen s ∧ csumValid (s.block.buf.take (frameLength b1)) = true ∧
        (frameLength b1 = 20 ∨ frameLength b1 = 203) ∧
        assembleFrame b1 s = respondDatagram (s.block.buf.take (frameLength b1))
          (bufDrop (frameLength b1) (incGood (incTotal s)))) ∨
      (frameLength b1 ≤ bufLen s ∧ csumValid (s.block.buf.take (frameLength b1)) = true ∧
        ¬ (frameLength b1 = 20 ∨ frameLength b1 = 203) ∧
        assembleFrame b1 s = raiseCondition .unrecognizedLength
          (bufDrop (frameLength b1) (incGood (incTotal s)))) := by
  unfold assembleFrame validateFrame dispatchFrame memRead
  simp only [Config.lenOpt, Config.lenData]
  by_cases h1 : bufLen s < frameLength b1
  · exact .inl ⟨h1, by simp [h1]⟩
  · have h1' : frameLength b1 ≤ bufLen s := Nat.not_lt.mp h1
    by_cases h2 : csumValid (s.block.buf.take (frameLength b1)) = true
    · by_cases h3 : frameLength b1 = 20 ∨ frameLength b1 = 203
      · exact .inr (.inr (.inl ⟨h1', h2, h3, by simp [h1, h2, h3]⟩))
      · exact .inr (.inr (.inr ⟨h1', h2, h3, by simp [h1, h2, h3]⟩))
    · have h2' := Bool.eq_false_iff.mpr h2
      exact .inr (.inl ⟨h1', h2', by simp [h1, h2']⟩)

/-- The header class of four bytes with a valid sync byte, subtype and kind, and the frame length its row runs. -/
theorem decodeHeader_valid (b1 b3 : Byte) (tail : List Byte) (h : b3 = 0x50#8 ∨ b3 = 0x10#8) :
    ∃ c, decodeHeader (0x71#8 :: b1 :: 0x01#8 :: b3 :: tail) = .ok c ∧
      ∀ s, runHeader c s = .next (assembleFrame b1 s) := by
  rcases h with rfl | rfl
  · by_cases h1 : b1 = 0x11#8
    · exact ⟨.optStd, by subst h1; rfl, fun s => by subst h1; rfl⟩
    by_cases h2 : b1 = 0xC8#8
    · exact ⟨.optLen203, by subst h2; rfl, fun s => by subst h2; rfl⟩
    · exact ⟨.optOther b1, congrArg Except.ok ((if_neg h1).trans (if_neg h2)), fun s => rfl⟩
  · by_cases h1 : b1 = 0x11#8
    · exact ⟨.dataLen20, by subst h1; rfl, fun s => by subst h1; rfl⟩
    by_cases h2 : b1 = 0xC8#8
    · exact ⟨.dataStd, by subst h2; rfl, fun s => by subst h2; rfl⟩
    · exact ⟨.dataOther b1, congrArg Except.ok ((if_neg h1).trans (if_neg h2)), fun s => rfl⟩

/-- Four bytes with a sync byte and a wrong subtype or kind are no header. -/
theorem decodeHeader_invalid (b1 b2 b3 : Byte) (tail : List Byte)
    (h : ¬ (b2 = 0x01#8 ∧ (b3 = 0x50#8 ∨ b3 = 0x10#8))) :
    ∃ e, e ≠ .headerShort ∧ decodeHeader (0x71#8 :: b1 :: b2 :: b3 :: tail) = .error e := by
  have hsync : ¬ ((0x71#8 : Byte) ≠ Config.sync) := by decide
  by_cases h2 : b2 = 0x01#8
  · have h3 := not_or.mp fun h3 => h ⟨h2, h3⟩
    refine ⟨.badKind, by simp, ?_⟩
    rw [decodeHeader, if_neg hsync, if_neg (show ¬ b2 ≠ Config.subtype from not_not.mpr h2),
      if_neg (show ¬ b3 = Config.kindOpt from h3.1), if_neg (show ¬ b3 = Config.kindData from h3.2)]
  · refine ⟨.badSubtype, by simp, ?_⟩
    rw [decodeHeader, if_neg hsync, if_pos (show b2 ≠ Config.subtype from h2)]

/-- All that stages 3 and 4 can do with a sync byte at the head of the buffer. -/
theorem parseHeader_cases (s : State) (tail : List Byte) (hbuf : s.block.buf = 0x71#8 :: tail) :
    (tail.length < 3 ∧ parseHeader s = .next (respondPoll .pollHeaderWait s)) ∨
      (∃ b1 b2 b3 rest, tail = b1 :: b2 :: b3 :: rest ∧ ¬ (b2 = 0x01#8 ∧ (b3 = 0x50#8 ∨ b3 = 0x10#8)) ∧
        parseHeader s = .next (raiseCondition .headerInvalid (bufDrop 1 s))) ∨
      (∃ b1 b3 rest, tail = b1 :: 0x01#8 :: b3 :: rest ∧ (b3 = 0x50#8 ∨ b3 = 0x10#8) ∧
        parseHeader s = .next (assembleFrame b1 s)) := by
  unfold parseHeader
  match tail, hbuf with
  | [], hbuf => exact .inl ⟨by simp, by rw [hbuf]; rfl⟩
  | [_], hbuf => exact .inl ⟨by simp, by rw [hbuf]; rfl⟩
  | [_, _], hbuf => exact .inl ⟨by simp, by rw [hbuf]; rfl⟩
  | b1 :: b2 :: b3 :: rest, hbuf =>
    by_cases h : b2 = 0x01#8 ∧ (b3 = 0x50#8 ∨ b3 = 0x10#8)
    · obtain ⟨rfl, h3⟩ := h
      obtain ⟨c, hc, hrun⟩ := decodeHeader_valid b1 b3 rest h3
      exact .inr (.inr ⟨b1, b3, rest, rfl, h3, by rw [hbuf, hc]; exact hrun s⟩)
    · obtain ⟨e, hne, he⟩ := decodeHeader_invalid b1 b2 b3 rest h
      refine .inr (.inl ⟨b1, b2, b3, rest, rfl, h, ?_⟩)
      rw [hbuf, he]
      cases e <;> first | rfl | exact absurd rfl hne

/-- All that stage 2 can do. -/
theorem parseBuffer_cases (s : State) :
    (s.block.buf = [] ∧ parseBuffer s = .next (respondPoll .pollEmpty s)) ∨
      (s.block.buf ≠ [] ∧ (∀ b ∈ s.block.buf, b ≠ 0x71#8) ∧
        parseBuffer s = .next (respondPoll .pollNoSync s)) ∨
      (∃ g tail, s.block.buf = g ++ 0x71#8 :: tail ∧ (∀ b ∈ g, b ≠ 0x71#8) ∧
        parseBuffer s = parseHeader (s.setBuf (0x71#8 :: tail))) := by
  unfold parseBuffer
  by_cases h0 : s.block.buf = []
  · exact .inl ⟨h0, by simp [bufLen, h0]⟩
  have hlen : ¬ bufLen s = 0 := by simpa [bufLen] using h0
  cases hf : bufFind s Config.sync with
  | none =>
    refine .inr (.inl ⟨h0, ?_, by simp [hlen]⟩)
    simpa [bufFind, List.findIdx?_eq_none_iff, Config.sync] using hf
  | some i =>
    obtain ⟨g, tail, hbuf, hi, hg⟩ := bufFind_some s _ i hf
    refine .inr (.inr ⟨g, tail, hbuf, hg, ?_⟩)
    simp [hlen, bufDrop, hbuf, ← hi, Config.sync]

end Sys2Proof.Laws
end

