-- ==== Sys2Proof/Laws/Checksum.lean ====
section
/-! SUPPORT. What the Checksum Module's two functions compute, over natural numbers and over concatenation. -/

namespace Sys2Proof.Laws

open Sys2Proof.Machine

theorem sum8_append (a b : List Byte) : sum8 (a ++ b) = sum8 a + sum8 b := by
  induction a with
  | nil => simp [sum8]
  | cons x a ih => rw [List.cons_append, sum8, sum8, ih, BitVec.add_assoc]

theorem sum8_toNat (bytes : List Byte) : (sum8 bytes).toNat = byteSum bytes % 256 := by
  induction bytes with
  | nil => rfl
  | cons b rest ih =>
    rw [sum8, BitVec.toNat_add, ih]
    simp only [byteSum, List.map_cons, List.sum_cons]
    omega

theorem csumValid_iff (frame : List Byte) : csumValid frame = true ↔ byteSum frame % 256 = 0 := by
  rw [csumValid, beq_iff_eq, ← sum8_toNat]
  exact ⟨fun h => by rw [h]; rfl, fun h => BitVec.eq_of_toNat_eq (h.trans rfl)⟩

/-- The send checksum is the two's complement of the sum. -/
theorem csumGen_eq_neg (payload : List Byte) : csumGen payload = -sum8 payload := by
  generalize hs : sum8 payload = x
  rw [csumGen, hs, BitVec.neg_eq_not_add]
  congr 1
  exact BitVec.xor_allOnes (x := x)

end Sys2Proof.Laws
end

