-- ==== Sys2Proof/Laws/PerInstr.lean ====
section
/-! SUPPORT. The per-instruction family `TableRow`: the encoding of an instruction stands in the place, and matches the
pattern under the mask, that its row of spec/opcode_table.json gives. -/

namespace Sys2Proof.Laws.TableRow

/-- The place of a row: the command port (8 bits) or the frame header (32 bits). -/
inductive Place where
  | port
  | header
  deriving DecidableEq, Repr

/-- The place, the match value and the mask of each row, copied from spec/opcode_table.json. -/
def row : Instr → Place × Nat × Nat
  | .openCmd _ _ => (.port, 0x01, 0xFF)
  | .closeCmd => (.port, 0x02, 0xFF)
  | .poll => (.port, 0x03, 0xFF)
  | .getstats => (.port, 0x04, 0xFF)
  | .send _ => (.port, 0x05, 0xFF)
  | .csumGen _ => (.port, 0x06, 0xFF)
  | .csumCheck _ => (.port, 0x07, 0xFF)
  | .hdrOptStd => (.header, 0x71110150, 0xFFFFFFFF)
  | .hdrDataStd => (.header, 0x71C80110, 0xFFFFFFFF)
  | .hdrDataLen20 => (.header, 0x71110110, 0xFFFFFFFF)
  | .hdrOptLen203 => (.header, 0x71C80150, 0xFFFFFFFF)
  | .hdrOptOther _ => (.header, 0x71000150, 0xFF00FFFF)
  | .hdrDataOther _ => (.header, 0x71000110, 0xFF00FFFF)

/-- The place of an encoding and its bits as one number: b0 is the most significant of a header (30_encoding.md R71). -/
def bits : Code → Place × Nat
  | .command c => (.port, c.word.toNat)
  | .header bytes => (.header, bytes.foldl (fun h b => h * 256 + b.toNat) 0)

/-- The encoding stands where its row says, and its bits under the row's mask are the row's match value. -/
def Statement (i : Instr) : Prop :=
  (bits (encode i)).1 = (row i).1 ∧ (bits (encode i)).2 &&& (row i).2.2 = (row i).2.1

theorem openCmd (port : PortId) (timeout : Timeout) : Statement (.openCmd port timeout) := by
  simp [Statement, bits, encode, row]

theorem closeCmd : Statement .closeCmd := ⟨rfl, rfl⟩

theorem poll : Statement .poll := ⟨rfl, rfl⟩

theorem getstats : Statement .getstats := ⟨rfl, rfl⟩

theorem send (payload : List Byte) : Statement (.send payload) := by
  simp [Statement, bits, encode, row, Command.ofWord]

theorem csumGen (payload : List Byte) : Statement (.csumGen payload) := by
  simp [Statement, bits, encode, row, Command.ofWord]

theorem csumCheck (frame : List Byte) : Statement (.csumCheck frame) := by
  simp [Statement, bits, encode, row, Command.ofWord]

theorem hdrOptStd : Statement .hdrOptStd := ⟨rfl, rfl⟩

theorem hdrDataStd : Statement .hdrDataStd := ⟨rfl, rfl⟩

theorem hdrDataLen20 : Statement .hdrDataLen20 := ⟨rfl, rfl⟩

theorem hdrOptLen203 : Statement .hdrOptLen203 := ⟨rfl, rfl⟩

theorem hdrOptOther (b1 : Byte) : Statement (.hdrOptOther b1) := by
  refine ⟨rfl, ?_⟩
  revert b1
  decide +kernel

theorem hdrDataOther (b1 : Byte) : Statement (.hdrDataOther b1) := by
  refine ⟨rfl, ?_⟩
  revert b1
  decide +kernel

end Sys2Proof.Laws.TableRow
end

