-- ==== Sys2Proof/Tests/Slice0.lean ====
section
/-! SUPPORT. Tests of the model against words and vectors of the spec (30_encoding.md, 95_test_vectors.md), and one witness
for the hypotheses of each obligation. Expected values are copied from the spec. -/

namespace Sys2Proof.Tests

open Sys2Proof Sys2Proof.Machine Sys2Proof.Laws

/-! ## Small states -/

/-- A port and a timeout. -/
def port : PortId := firstPort

/-- See `port`. -/
def timeout : Timeout := firstTimeout

/-- The start state of 95_test_vectors.md section 0, with `buf` in the buffer. -/
def ready (buf : List Byte) : State :=
  { State.reset with block := { Block.reset with
    buf := buf, linkOpen := true, cfgValid := true, cfgPort := port, cfgTimeout := timeout } }

/-- The same with the transport not held. -/
def unlinked (buf : List Byte) : State := (ready buf).setLink false

/-- The host issues these actions next. -/
def issuing (actions : List HostAction) (s : State) : State := { s with host := actions }

/-- The transport answers reads with these. -/
def reading (answers : List ReadAnswer) (s : State) : State :=
  { s with transport := { s.transport with reads := { listed := answers, drawn := 0 } } }

/-- The transport answers opens with this. -/
def opening (a : Status) (s : State) : State :=
  { s with transport := { s.transport with opens := { listed := [a], drawn := 0 } } }

/-- The transport answers writes with these. -/
def writing (answers : List Status) (s : State) : State :=
  { s with transport := { s.transport with writes := { listed := answers, drawn := 0 } } }

/-- A read that delivers `c` with no fault. -/
def chunk (c : List Byte) : ReadAnswer := { bytes := c, status := .ok }

/-- The counters. -/
def counting (total good : Counter) (s : State) : State :=
  { s with block := { s.block with totalReads := total, goodReads := good } }

/-- The step ends in a next state that has the property. -/
def after (o : Host.Outcome State Fault Refusal) (p : State → Bool) : Bool :=
  match o with
  | .next t => p t
  | .fault _ => false
  | .refused _ => false

/-- The next state answered `code`, with `buf` left in the buffer. -/
def answers (code : ResponseCode) (buf : List Byte) (t : State) : Bool :=
  t.response.map Response.code == some code && t.block.buf == buf

/-- The next state returned the datagram `f`, emptied the buffer and counted one read and one good read. -/
def dispatched (f : List Byte) (t : State) : Bool :=
  answers .pollDispatched [] t && t.response.bind Response.dg == some f &&
    t.block.totalReads == 1#32 && t.block.goodReads == 1#32

/-- `n` zero bytes. -/
def zeros (n : Nat) : List Byte := List.replicate n 0x00#8

/-- `OPT(zeros(15))`. -/
def optFrame : List Byte := [0x71#8, 0x11#8, 0x01#8, 0x50#8] ++ zeros 15 ++ [0x2D#8]

/-- `DATA(zeros(198))`. -/
def dataFrame : List Byte := [0x71#8, 0xC8#8, 0x01#8, 0x10#8] ++ zeros 198 ++ [0xB6#8]

/-- The longest operand. -/
def longest : List Byte := List.replicate Config.maxOperandLen 0x00#8

/-- An operand one byte too long. -/
def tooLong : List Byte := List.replicate (Config.maxOperandLen + 1) 0x00#8

/-! ## Well-formedness refuses -/

theorem test_wellFormed_send_tooLong : WellFormed (.send tooLong) = false := by
  simp [WellFormed, Config.operandFits, tooLong, Config.maxOperandLen]

theorem test_wellFormed_csumGen_tooLong : WellFormed (.csumGen tooLong) = false := by
  simp [WellFormed, Config.operandFits, tooLong, Config.maxOperandLen]

theorem test_wellFormed_csumCheck_tooLong : WellFormed (.csumCheck tooLong) = false := by
  simp [WellFormed, Config.operandFits, tooLong, Config.maxOperandLen]

theorem test_wellFormed_optOther_exactRows :
    WellFormed (.hdrOptOther 0x11#8) = false ∧ WellFormed (.hdrOptOther 0xC8#8) = false := by decide

theorem test_wellFormed_dataOther_exactRows :
    WellFormed (.hdrDataOther 0x11#8) = false ∧ WellFormed (.hdrDataOther 0xC8#8) = false := by decide

/-! ## Decoding, from words written out (30_encoding.md R60, R61: `RSV` in bits 7 to 3, `OPC` in bits 2 to 0) -/

/-- For every port and every timeout. -/
theorem test_decode_open (p : PortId) (t : Timeout) :
    decode (.command { word := 0b00000001#8, port := p, timeout := t, bytes := [] }) = .ok (.openCmd p t) := by
  simp [decode, decodeCommand, rsvField, opcField]

theorem test_decode_close : decode (.command (Command.ofWord 0b00000010#8)) = .ok .closeCmd := by decide

theorem test_decode_poll : decode (.command (Command.ofWord 0b00000011#8)) = .ok .poll := by decide

theorem test_decode_getstats : decode (.command (Command.ofWord 0b00000100#8)) = .ok .getstats := by decide

theorem test_decode_send :
    decode (.command { Command.ofWord 0b00000101#8 with bytes := [0x01#8, 0x02#8] }) =
      .ok (.send [0x01#8, 0x02#8]) := by decide

theorem test_decode_csumGen :
    decode (.command { Command.ofWord 0b00000110#8 with bytes := [0x01#8] }) = .ok (.csumGen [0x01#8]) := by decide

theorem test_decode_csumCheck :
    decode (.command { Command.ofWord 0b00000111#8 with bytes := [0x01#8] }) = .ok (.csumCheck [0x01#8]) := by decide

/-- E-1 to E-5. -/
theorem test_decode_illegal :
    decode (.command (Command.ofWord 0b00000000#8)) = .error .reservedOpcode ∧
    decode (.command (Command.ofWord 0b00001000#8)) = .error .reservedBits ∧
    decode (.command (Command.ofWord 0b00001011#8)) = .error .reservedBits ∧
    decode (.command (Command.ofWord 0b10000000#8)) = .error .reservedBits ∧
    decode (.command (Command.ofWord 0b11111111#8)) = .error .reservedBits := by decide

/-- E-6. -/
theorem test_decode_operandTooLong :
    decode (.command { Command.ofWord 0x05#8 with bytes := tooLong }) = .error .operandTooLong := by
  have h : Config.operandFits tooLong.length = false := by
    simp [Config.operandFits, tooLong, Config.maxOperandLen]
  simp [decode, decodeCommand, decodeBytes, Command.ofWord, rsvField, opcField, h]

/-- H-1. -/
theorem test_decode_hdrOptStd : decode (.header [0x71#8, 0x11#8, 0x01#8, 0x50#8]) = .ok .hdrOptStd := by decide

/-- H-2. -/
theorem test_decode_hdrDataStd : decode (.header [0x71#8, 0xC8#8, 0x01#8, 0x10#8]) = .ok .hdrDataStd := by decide

/-- H-3. -/
theorem test_decode_hdrDataLen20 : decode (.header [0x71#8, 0x11#8, 0x01#8, 0x10#8]) = .ok .hdrDataLen20 := by decide

/-- H-4. -/
theorem test_decode_hdrOptLen203 : decode (.header [0x71#8, 0xC8#8, 0x01#8, 0x50#8]) = .ok .hdrOptLen203 := by decide

/-- H-5. -/
theorem test_decode_hdrOptOther :
    decode (.header [0x71#8, 0x02#8, 0x01#8, 0x50#8]) = .ok (.hdrOptOther 0x02#8) := by decide

/-- H-6. -/
theorem test_decode_hdrDataOther :
    decode (.header [0x71#8, 0xFF#8, 0x01#8, 0x10#8]) = .ok (.hdrDataOther 0xFF#8) := by decide

/-- H-8, H-9, H-12, a wrong sync byte, and three bytes. -/
theorem test_decode_badHeader :
    decode (.header [0x71#8, 0x11#8, 0x02#8, 0x50#8]) = .error .badSubtype ∧
    decode (.header [0x71#8, 0x11#8, 0x01#8, 0x20#8]) = .error .badKind ∧
    decode (.header [0x71#8, 0x11#8, 0x50#8, 0x01#8]) = .error .badSubtype ∧
    decode (.header [0x70#8, 0x11#8, 0x01#8, 0x50#8]) = .error .badSync ∧
    decode (.header [0x71#8, 0x11#8, 0x01#8]) = .error .headerShort := by decide

/-- A header row placed by `withFetchWord` is run by the next step: 4 of 20 bytes are buffered, so it waits. -/
theorem test_fetch_hdrOptStd :
    after (step (State.reset.withFetchWord 32 0x71110150))
      (answers .pollLengthWait [0x71#8, 0x11#8, 0x01#8, 0x50#8]) = true := by decide

/-! ## Reset and the port -/

/-- 70_reset_and_hazards.md R160, on the block that O-3 starts from. -/
theorem test_reset :
    after (step (issuing [.reset] (counting 5#32 3#32 (ready [0x71#8, 0x11#8]))))
      (fun t => t.block == Block.reset && t.requests == []) = true := by decide

/-- E-7. -/
theorem test_illegal_keepsFault :
    after (step (issuing [.command (Command.ofWord 0x00#8)] (ready []).setBufOvf))
      (fun t => t.block == (ready []).setBufOvf.block && t.requests == [] &&
        t.response == some { code := .illegalCommand, flt := 0b01#2 }) = true := by decide

/-! ## OPEN and CLOSE -/

/-- O-3, for every port and timeout: the second OPEN closes first, clears `BUF` and keeps the counters. -/
theorem test_open_again (p : PortId) (t : Timeout) :
    ∃ u, exec (.openCmd p t) (opening .ok (counting 5#32 3#32 (ready [0x71#8, 0x11#8]))) = .next u ∧
      answers .ok [] u = true ∧ u.block.linkOpen = true ∧ u.block.cfgPort = p ∧ u.block.totalReads = 5#32 ∧
      u.block.goodReads = 3#32 ∧
      u.requests = [.close, .open { port := p, baud := 9600, parity := .even, stopBits := 1, timeout := t }] :=
  ⟨_, rfl, rfl, rfl, rfl, rfl, rfl, rfl⟩

/-- O-2, for every port and timeout: a failed OPEN from reset stores the configuration. -/
theorem test_open_fails (p : PortId) (t : Timeout) :
    ∃ u, exec (.openCmd p t) (opening .err State.reset) = .next u ∧ answers .openError [] u = true ∧
      u.block.linkOpen = false ∧ u.block.cfgValid = true ∧ u.block.cfgPort = p ∧ u.block.cfgTimeout = t :=
  ⟨_, rfl, rfl, rfl, rfl, rfl, rfl⟩

/-- C-1. -/
theorem test_close_held :
    after (exec .closeCmd (counting 2#32 1#32 (ready [0x71#8, 0x11#8])))
      (fun t => answers .ok [0x71#8, 0x11#8] t && t.block.linkOpen == false && t.block.cfgValid &&
        t.block.totalReads == 2#32 && t.requests == [.close]) = true := by decide

/-- C-2. -/
theorem test_close_free :
    after (exec .closeCmd (unlinked [])) (fun t => answers .ok [] t && t.requests == []) = true := by decide

/-! ## GETSTATS -/

/-- S-3: 100/3, not a rounded value. -/
theorem test_getstats_third :
    after (exec .getstats (counting 3#32 1#32 (ready [])))
      (fun t => t.response == some {
        code := .ok, flt := 0#2, good := some 1#32, total := some 3#32, pct := some (100 / 3) }) = true := by
  decide +kernel

/-- S-1. -/
theorem test_getstats_none :
    after (exec .getstats (ready []))
      (fun t => t.response == some {
        code := .ok, flt := 0#2, good := some 0#32, total := some 0#32, pct := some 0 }) = true := by
  decide +kernel

/-! ## SEND -/

/-- X-1. -/
theorem test_send :
    after (exec (.send [0x01#8, 0x02#8]) (writing [.ok, .ok] (ready [])))
      (fun t => answers .ok [] t && t.requests == [.write [0x01#8, 0x02#8], .write [0xFD#8]]) = true := by decide

/-- X-3: the checksum is not written after a failed payload. -/
theorem test_send_payloadFails :
    after (exec (.send [0x01#8, 0x02#8]) (writing [.err, .ok] (ready [])))
      (fun t => answers .writeErrorPayload [] t && t.requests == [.write [0x01#8, 0x02#8]]) = true := by decide

/-! ## CSUM_GEN and CSUM_CHECK -/

/-- G-7: the sum wraps. -/
theorem test_csumGen_wraps :
    after (exec (.csumGen [0xFF#8, 0xFF#8]) State.reset) (fun t => t.response.bind Response.cs == some 0x02#8) = true := by
  decide

/-- G-8. -/
theorem test_csumGen_header :
    after (exec (.csumGen [0x71#8, 0x11#8, 0x01#8, 0x50#8]) State.reset)
      (fun t => t.response.bind Response.cs == some 0x2D#8) = true := by decide

/-- K-4. -/
theorem test_csumCheck_valid :
    after (exec (.csumCheck [0x71#8, 0x11#8, 0x01#8, 0x50#8, 0x2D#8]) State.reset)
      (fun t => t.response.bind Response.ok == some true) = true := by decide

/-- K-13. -/
theorem test_csumCheck_invalid :
    after (exec (.csumCheck [0x71#8, 0x00#8, 0x01#8]) State.reset)
      (fun t => t.response.bind Response.ok == some false) = true := by decide

/-- The frames of 95_test_vectors.md section 0. -/
theorem test_frameMacros : optMacro (zeros 15) = optFrame ∧ dataMacro (zeros 198) = dataFrame := by decide +kernel

/-! ## POLL -/

/-- P-18: no read, a reopen, and the buffered bytes are kept. -/
theorem test_poll_reopens :
    after (exec .poll (opening .ok (unlinked [0x71#8, 0x11#8])))
      (fun t => answers .pollHeaderWait [0x71#8, 0x11#8] t && t.block.linkOpen &&
        t.response.bind Response.rf == some true && t.requests.length == 1) = true := by decide

/-- P-27: a false sync byte costs one POLL and one byte. -/
theorem test_poll_falseSync :
    after (exec .poll (reading [chunk ([0x71#8, 0x00#8, 0x00#8, 0x00#8] ++ optFrame)] (ready [])))
      (fun t => answers .pollHeaderInvalid ([0x00#8, 0x00#8, 0x00#8] ++ optFrame) t && t.block.totalReads == 0#32) =
      true := by decide +kernel

/-! ## The frame-header rows -/

/-- P-9. -/
theorem test_hdrOptStd_dispatched :
    after (exec .hdrOptStd (ready optFrame)) (dispatched optFrame) = true := by decide +kernel

/-- P-8: a checksum off by one costs the sync byte. -/
theorem test_hdrOptStd_checksumFails :
    after (exec .hdrOptStd (ready (optFrame.set 19 0x2E#8)))
      (fun t => answers .pollChecksumFailed ((optFrame.set 19 0x2E#8).drop 1) t && t.block.totalReads == 1#32 &&
        t.block.goodReads == 0#32) = true := by decide +kernel

/-- P-10. -/
theorem test_hdrDataStd_dispatched :
    after (exec .hdrDataStd (ready dataFrame)) (dispatched dataFrame) = true := by decide +kernel

/-- P-25. -/
theorem test_hdrDataStd_corrupted :
    after (exec .hdrDataStd (ready (dataFrame.set 100 0x01#8)))
      (fun t => answers .pollChecksumFailed ((dataFrame.set 100 0x01#8).drop 1) t && t.block.totalReads == 1#32 &&
        t.block.goodReads == 0#32) = true := by decide +kernel

/-- P-13: the kind byte is not tied to the length. -/
theorem test_hdrDataLen20_dispatched :
    let f := [0x71#8, 0x11#8, 0x01#8, 0x10#8] ++ zeros 15 ++ [0x6D#8]
    after (exec .hdrDataLen20 (ready f)) (dispatched f) = true := by decide +kernel

/-- P-22 on this row: both counters saturate and set `CNT_OVF`. -/
theorem test_hdrDataLen20_saturates :
    after (exec .hdrDataLen20 (counting 0xFFFFFFFF#32 0xFFFFFFFF#32
        (ready ([0x71#8, 0x11#8, 0x01#8, 0x10#8] ++ zeros 15 ++ [0x6D#8]))))
      (fun t => answers .pollDispatched [] t && t.block.totalReads == 0xFFFFFFFF#32 &&
        t.block.goodReads == 0xFFFFFFFF#32 && t.block.fault == 0b10#2) = true := by decide +kernel

/-- P-14. -/
theorem test_hdrOptLen203_dispatched :
    let f := [0x71#8, 0xC8#8, 0x01#8, 0x50#8] ++ zeros 198 ++ [0x76#8]
    after (exec .hdrOptLen203 (ready f)) (dispatched f) = true := by decide +kernel

/-- P-11. -/
theorem test_hdrOptOther_unrecognized :
    after (exec (.hdrOptOther 0x02#8) (ready [0x71#8, 0x02#8, 0x01#8, 0x50#8, 0x3C#8]))
      (fun t => answers .pollLengthUnrecognized [] t && t.block.totalReads == 1#32 && t.block.goodReads == 1#32 &&
        t.response.bind Response.dg == none) = true := by decide

/-- P-23: a false length of 258 waits. -/
theorem test_hdrOptOther_waits :
    after (exec (.hdrOptOther 0xFF#8) (ready ([0x71#8, 0xFF#8, 0x01#8, 0x50#8] ++ optFrame)))
      (answers .pollLengthWait ([0x71#8, 0xFF#8, 0x01#8, 0x50#8] ++ optFrame)) = true := by decide +kernel

/-- P-12c: the byte behind the frame stays. -/
theorem test_hdrDataOther_unrecognized :
    after (exec (.hdrDataOther 0x02#8) (ready [0x71#8, 0x02#8, 0x01#8, 0x10#8, 0x7C#8, 0xEE#8]))
      (fun t => answers .pollLengthUnrecognized [0xEE#8] t && t.block.totalReads == 1#32 &&
        t.block.goodReads == 1#32) = true := by decide

/-- P-12b. -/
theorem test_hdrDataOther_length4 :
    after (exec (.hdrDataOther 0x01#8) (ready [0x71#8, 0x01#8, 0x01#8, 0x10#8]))
      (fun t => answers .pollChecksumFailed [0x01#8, 0x01#8, 0x10#8] t && t.block.totalReads == 1#32 &&
        t.block.goodReads == 0#32) = true := by decide

/-! ## Witnesses: the hypotheses of the obligations can be met, each clause at a boundary value -/

theorem length_zeros (n : Nat) : (zeros n).length = n := List.length_replicate

/-- The sync byte is none of the zero bytes. -/
theorem noSync_zeros (n : Nat) : NoSync (zeros n) := by
  intro b hb
  rw [List.eq_of_mem_replicate hb]
  decide

theorem datagram_optFrame : Datagram optFrame :=
  ⟨⟨0x11#8, 0x50#8, _, rfl, .inl rfl, by decide, by decide⟩, .inl (by decide)⟩

theorem datagram_dataFrame : Datagram dataFrame :=
  ⟨⟨0xC8#8, 0x10#8, _, rfl, .inr rfl, by decide +kernel, by decide +kernel⟩, .inr (by decide +kernel)⟩

/-- The frame of P-11: whole, and no datagram. -/
def shortFrame : List Byte := [0x71#8, 0x02#8, 0x01#8, 0x50#8, 0x3C#8]

theorem wholeFrame_shortFrame : WholeFrame shortFrame := ⟨0x02#8, 0x50#8, _, rfl, .inl rfl, by decide, by decide⟩

theorem witness_ResetSetsEveryElement : (issuing [.reset] (ready optFrame)).host = .reset :: [] := rfl

theorem witness_StepRunsDecodedCommand :
    (issuing [pollAction] (ready [])).host = .command (Command.ofWord 0x03#8) :: [] ∧
      decodeCommand (Command.ofWord 0x03#8) = .ok .poll ∧ (ready []).host = [] := by decide

/-- A next read of exactly `CHUNK_MAX` bytes, and a block that would not read. -/
theorem witness_StepAlwaysAnswers :
    let s := reading [chunk (zeros 1024)] (ready [])
    (s.block.cfgValid = true → s.block.linkOpen = true → KeepsReadDuty s) ∧
      (State.reset.block.cfgValid = true → State.reset.block.linkOpen = true → KeepsReadDuty State.reset) :=
  ⟨fun _ _ => (length_zeros 1024).le, fun h => by cases h⟩

/-- Each ground of illegality, and E-8: the longest operand is no ground. -/
theorem witness_IllegalCommandHasNoEffect :
    Illegal (Command.ofWord 0x00#8) ∧ Illegal (Command.ofWord 0x0B#8) ∧
      Illegal { Command.ofWord 0x05#8 with bytes := tooLong } ∧
      ¬ Illegal { Command.ofWord 0x07#8 with bytes := longest } ∧
      ∀ w, (issuing [.command (Command.ofWord w)] (ready [])).host = .command (Command.ofWord w) :: [] := by
  refine ⟨.inl (by decide), .inr (.inl (by decide)), .inr (.inr ⟨by decide, by simp [tooLong]⟩), ?_, fun _ => rfl⟩
  simp [Illegal, Command.ofWord, longest]

theorem witness_OpcodeMapDecodes : longest.length ≤ Config.maxOperandLen := by simp [longest]

/-- The headers H-7 and H-6, of the shortest and the longest frame, and three bytes. -/
theorem witness_HeaderValidityTest :
    decodeHeader [0x71#8, 0x00#8, 0x01#8, 0x50#8] = .ok (.optOther 0x00#8) ∧
      decodeHeader [0x71#8, 0xFF#8, 0x01#8, 0x10#8] = .ok (.dataOther 0xFF#8) ∧
      [0x71#8, 0x11#8, 0x01#8].length < 4 := by decide

theorem witness_EncodeDecodeRoundTrip :
    (∀ i ∈ [Instr.send longest, .csumGen longest, .csumCheck longest], WellFormed i = true) ∧
      ∀ i ∈ [Instr.openCmd port timeout, .closeCmd, .poll, .getstats, .hdrOptStd, .hdrDataStd, .hdrDataLen20,
        .hdrOptLen203, .hdrOptOther 0x10#8, .hdrOptOther 0xC9#8, .hdrDataOther 0x00#8, .hdrDataOther 0xFF#8],
        WellFormed i = true := by
  refine ⟨?_, by decide⟩
  simp [WellFormed, operandFits_iff, longest]

theorem witness_DecodedIsEncodable :
    decodeCommand { Command.ofWord 0x05#8 with bytes := [0x01#8] } = .ok (.send [0x01#8]) ∧
      decodeCommand { Command.ofWord 0x06#8 with bytes := [] } = .ok (.csumGen []) ∧
      decodeCommand { Command.ofWord 0x07#8 with bytes := [0x00#8] } = .ok (.csumCheck [0x00#8]) ∧
      decodeCommand (Command.ofWord 0x01#8) = .ok (.openCmd firstPort firstTimeout) ∧
      decodeHeader optFrame = .ok .optStd := by decide

theorem witness_ResponseCodesDistinct : codeNumber .unconfigured = codeNumber .unconfigured := rfl

/-- A buffer that the append fills exactly, and one byte more. -/
theorem witness_BufAppendAllOrNothing :
    (ready (zeros 1)).block.buf.length + (zeros (Config.bufCap - 1)).length ≤ Config.bufCap ∧
      Config.bufCap < (ready (zeros 1)).block.buf.length + (zeros Config.bufCap).length := by
  have := bufCap_ge
  simp [ready, zeros]
  omega

theorem witness_BufFindsFirst :
    bufFind (ready [0xAA#8, 0x71#8, 0x71#8]) 0x71#8 = some 1 ∧ bufFind (ready [0xAA#8]) 0x71#8 = none := by decide

/-- P-22b: the total is at its largest value, the good reads one below. -/
theorem witness_CountersSaturate :
    let s := counting 0xFFFFFFFF#32 0xFFFFFFFE#32 (ready [])
    s.block.goodReads ≤ s.block.totalReads := by decide

/-- K-10, K-11 and K-12, on the frame of K-4. -/
theorem witness_ChecksumErrorDetection :
    csumValid ([0x71#8] ++ 0x11#8 :: [0x01#8, 0x50#8, 0x2D#8]) = true ∧ 0x11#8 ≠ 0x12#8 ∧
      [0x2D#8, 0x50#8, 0x01#8, 0x11#8, 0x71#8].Perm [0x71#8, 0x11#8, 0x01#8, 0x50#8, 0x2D#8] ∧
      ((0x11#8).toNat + (0x50#8).toNat) % 256 = ((0x12#8).toNat + (0x4F#8).toNat) % 256 := by decide

theorem witness_OpenStoresAndAcquires :
    (∀ s ∈ [opening .ok (ready optFrame), opening .ok State.reset], s.openAnswer = .ok) ∧
      ∀ s ∈ [opening .err (ready optFrame), opening .err State.reset], s.openAnswer = .err := by decide

theorem witness_CloseReleases :
    (ready optFrame).block.linkOpen = true ∧ (unlinked optFrame).block.linkOpen = false ∧
      ∃ t u, exec .closeCmd (ready optFrame) = .next t ∧ exec .closeCmd t = .next u :=
  ⟨rfl, rfl, _, _, rfl, rfl⟩

theorem witness_SendWritesTwice :
    (unlinked []).block.linkOpen = false ∧
      (∀ ws ∈ [[Status.err, .ok], [.ok, .err], [.ok, .ok]], (writing ws (ready [])).block.linkOpen = true) ∧
      (writing [.err, .ok] (ready [])).writeAnswer = .err ∧
      (∀ ws ∈ [[Status.ok, .err], [.ok, .ok]], (writing ws (ready [])).writeAnswer = .ok) ∧
      (writing [.ok, .err] (ready [])).transport.writes.rest.next Config.freeWrite = .err ∧
      (writing [.ok, .ok] (ready [])).transport.writes.rest.next Config.freeWrite = .ok := by
  decide

/-- An OPEN, and a POLL that reopens. -/
theorem witness_OpenCarriesStoredConfig :
    ∃ t u cfg, step (issuing [.command { Command.ofWord 0x01#8 with port := port, timeout := timeout }] State.reset
        |> opening .ok) = .next t ∧ Request.open cfg ∈ t.requests ∧
      step (issuing [pollAction] (opening .err (unlinked []))) = .next u ∧ Request.open cfg ∈ u.requests :=
  ⟨_, _, Config.linkConfig port timeout, rfl, List.mem_singleton.mpr rfl, rfl, List.mem_singleton.mpr rfl⟩

theorem witness_ConfigUnreadBeforeOpen :
    State.reset.block.cfgValid = false ∧ ∃ t, step (issuing [pollAction] State.reset) = .next t := ⟨rfl, _, rfl⟩

theorem witness_CloseAnswerIgnored :
    ∃ t, step (issuing [.command (Command.ofWord 0x02#8)] (ready [])) = .next t := ⟨_, rfl⟩

theorem witness_PercentageWithinRange :
    0x00000000#32 ≤ 0x00000000#32 ∧ 0xFFFFFFFE#32 ≤ 0xFFFFFFFF#32 ∧ 0xFFFFFFFF#32 ≠ 0x00000000#32 := by decide

theorem witness_PollUnconfigured : State.reset.block.cfgValid = false := rfl

/-- A read of `CHUNK_MAX` bytes, and one that ends the stream with none. -/
theorem witness_PollReadsChunk :
    ReadsChunk (reading [chunk (zeros 1024)] (ready [])) (zeros 1024) ∧
      ReadsChunk (reading [{ bytes := [], status := .eof }] (ready [])) [] :=
  ⟨⟨rfl, rfl, (length_zeros 1024).le, .inl rfl⟩, rfl, rfl, by decide, .inr rfl⟩

/-- The states of P-16 to P-18b. -/
theorem witness_PollRecovers :
    ∀ a ∈ [Status.ok, Status.err],
      (opening a (reading [{ bytes := [], status := .err }] (ready optFrame))).openAnswer = a ∧
        ReadFaults (opening a (reading [{ bytes := [], status := .err }] (ready optFrame))) ∧
        (opening a (unlinked [0x71#8, 0x11#8])).openAnswer = a ∧
        ReadFaults (opening a (unlinked [0x71#8, 0x11#8])) :=
  fun _ _ => ⟨rfl, ⟨rfl, .inr ⟨Nat.zero_le 1024, rfl⟩⟩, rfl, rfl, .inl rfl⟩

theorem witness_ReadFaultNeverEscapes : ReadFaults (unlinked []) ∧ (unlinked []).requests = [] :=
  ⟨⟨rfl, .inl rfl⟩, rfl⟩

theorem witness_PollRefusesLongRead :
    let s := reading [chunk (zeros 1025)] (ready [])
    s.block.cfgValid = true ∧ s.block.linkOpen = true ∧ 1024 < s.readAnswer.bytes.length :=
  ⟨rfl, rfl, (length_zeros 1025).ge⟩

theorem witness_PollEmptyStops : (ready []).block.buf = [] := rfl

theorem witness_PollNoSyncKeepsBuffer : (ready (zeros 1)).block.buf ≠ [] ∧ NoSync (ready (zeros 1)).block.buf :=
  ⟨by decide, noSync_zeros 1⟩

theorem witness_PollDropsGarbage :
    NoSync (zeros 2) ∧ (ready (zeros 2 ++ optFrame)).block.buf = zeros 2 ++ 0x71#8 :: optFrame.tail ∧
      NoSync [] ∧ (ready optFrame).block.buf = [] ++ 0x71#8 :: optFrame.tail :=
  ⟨noSync_zeros 2, rfl, noSync_zeros 0, rfl⟩

theorem witness_PollHeaderWait :
    NoSync (zeros 1) ∧ ∀ tail ∈ [[], [0x11#8, 0x01#8]],
      (ready (zeros 1 ++ 0x71#8 :: tail)).block.buf = zeros 1 ++ 0x71#8 :: tail ∧ tail.length < 3 :=
  ⟨noSync_zeros 1, by decide⟩

/-- A wrong subtype, a wrong kind, and a valid header. -/
theorem witness_PollInvalidHeader :
    NoSync [] ∧ (ready [0x71#8, 0x11#8, 0x02#8, 0x50#8]).block.buf = [] ++ 0x71#8 :: 0x11#8 :: 0x02#8 :: 0x50#8 :: [] ∧
      ¬ (0x02#8 = 0x01#8 ∧ KindByte 0x50#8) ∧ ¬ (0x01#8 = 0x01#8 ∧ KindByte 0x20#8) ∧
      (ready [0x71#8, 0x11#8, 0x01#8, 0x50#8]).block.buf = [] ++ 0x71#8 :: 0x11#8 :: 0x01#8 :: 0x50#8 :: [] ∧
      KindByte 0x50#8 :=
  ⟨noSync_zeros 0, rfl, by simp, by simp [KindByte], rfl, .inl rfl⟩

theorem witness_PollRunsHeaderRow :
    NoSync [] ∧ KindByte 0x10#8 ∧ KindByte 0x50#8 ∧ ∀ b1 ∈ [0x00#8, 0xFF#8],
      (ready [0x71#8, b1, 0x01#8, 0x50#8]).block.buf = [] ++ 0x71#8 :: b1 :: 0x01#8 :: 0x50#8 :: [] :=
  ⟨noSync_zeros 0, .inr rfl, .inl rfl, by decide⟩

/-- One byte short, for every row. -/
theorem witness_HeaderRowWaits :
    ∀ row ∈ [(Instr.hdrOptStd, 20), (.hdrDataStd, 203), (.hdrDataLen20, 20), (.hdrOptLen203, 203),
      (.hdrOptOther 0x02#8, 5), (.hdrDataOther 0xFF#8, 258)],
      rowLength row.1 = some row.2 ∧ (ready (zeros (row.2 - 1))).block.buf.length < row.2 := by decide +kernel

/-- The exact length, for every row, with a byte that spoils the sum. -/
theorem witness_HeaderRowChecksumFails :
    ∀ row ∈ [(Instr.hdrOptStd, 20), (.hdrDataStd, 203), (.hdrDataLen20, 20), (.hdrOptLen203, 203),
      (.hdrOptOther 0x00#8, 3), (.hdrDataOther 0xFF#8, 258)],
      rowLength row.1 = some row.2 ∧ row.2 ≤ (ready (0x01#8 :: zeros (row.2 - 1))).block.buf.length ∧
        byteSum ((ready (0x01#8 :: zeros (row.2 - 1))).block.buf.take row.2) % 256 ≠ 0 := by decide +kernel

theorem witness_HeaderRowDispatches :
    ∀ row ∈ [(Instr.hdrOptStd, 20), (.hdrDataStd, 203), (.hdrDataLen20, 20), (.hdrOptLen203, 203)],
      rowLength row.1 = some row.2 ∧ row.2 ≤ (ready (zeros row.2)).block.buf.length ∧
        byteSum ((ready (zeros row.2)).block.buf.take row.2) % 256 = 0 ∧ (row.2 = 20 ∨ row.2 = 203) := by
  decide +kernel

/-- The lengths next to 20 and 203, the shortest and the longest. -/
theorem witness_HeaderRowUnrecognized :
    ∀ row ∈ [(Instr.hdrOptOther 0x10#8, 19), (.hdrOptOther 0x12#8, 21), (.hdrDataOther 0xC7#8, 202),
      (.hdrDataOther 0xC9#8, 204), (.hdrOptOther 0x00#8, 3), (.hdrDataOther 0xFF#8, 258)],
      rowLength row.1 = some row.2 ∧ row.2 ≤ (ready (zeros row.2)).block.buf.length ∧
        byteSum ((ready (zeros row.2)).block.buf.take row.2) % 256 = 0 ∧ row.2 ≠ 20 ∧ row.2 ≠ 203 := by
  decide +kernel

/-- A data frame behind garbage, the last byte of it in the read. -/
theorem witness_PollReturnsDatagram :
    let s := reading [chunk [0xB6#8]] (ready (zeros 3 ++ dataFrame.dropLast))
    ReadsChunk s [0xB6#8] ∧ s.block.buf ++ [0xB6#8] = zeros 3 ++ (dataFrame ++ []) ∧
      s.block.buf.length + [0xB6#8].length ≤ Config.bufCap ∧ NoSync (zeros 3) ∧ Datagram dataFrame := by
  refine ⟨⟨rfl, rfl, by decide, .inl rfl⟩, by decide +kernel, ?_, noSync_zeros 3, datagram_dataFrame⟩
  exact Nat.le_trans (by decide +kernel) bufCap_ge

theorem witness_PollEndsWithOneCode : KeepsReadDuty (reading [chunk (zeros 1024)] (ready [])) :=
  (length_zeros 1024).le

/-- Every code that stages 2 to 7 can answer. -/
theorem witness_PollConsumesByCode :
    ∀ c ∈ [(ResponseCode.pollEmpty, []), (.pollNoSync, zeros 1), (.pollHeaderWait, [0x71#8]),
      (.pollHeaderInvalid, [0x71#8, 0x11#8, 0x02#8, 0x50#8]), (.pollLengthWait, optFrame.dropLast),
      (.pollChecksumFailed, [0x71#8, 0x00#8, 0x01#8, 0x50#8]), (.pollDispatched, optFrame),
      (.pollLengthUnrecognized, shortFrame)],
      after (parseBuffer (ready c.2)) (fun t => t.response.map Response.code == some c.1) = true := by decide +kernel

/-- Every code whose buffer the statement describes. -/
theorem witness_PollHeadInvariants :
    ∀ c ∈ [(ResponseCode.pollEmpty, []), (.pollNoSync, zeros 1), (.pollHeaderWait, [0x71#8]),
      (.pollLengthWait, optFrame.dropLast)],
      after (exec .poll (reading [emptyRead] (ready c.2))) (fun t => t.response.map Response.code == some c.1) = true := by
  decide +kernel

/-- The empty buffer, settled after one POLL. -/
theorem witness_QuietPollsSettle :
    let s := issuing [pollAction, pollAction] (reading [emptyRead, emptyRead] (ready []))
    s.block.cfgValid = true ∧ s.block.linkOpen = true ∧ s.block.buf.length ≤ Config.bufCap ∧
      s.host = List.replicate (1 + 1) pollAction ++ [] ∧
      s.transport.reads.listed = List.replicate (1 + 1) emptyRead ++ [] ∧ s.block.buf.length + 1 ≤ 1 :=
  ⟨rfl, rfl, Nat.zero_le _, rfl, rfl, Nat.le_refl _⟩

/-- A frame before, and one behind, the second of two frames. -/
theorem witness_BacklogReturnedInOrder :
    let s := issuing [pollAction, pollAction] (reading [emptyRead, emptyRead]
      (ready (([optFrame] ++ dataFrame :: [optFrame]).flatten ++ [0x71#8])))
    s.block.cfgValid = true ∧ s.block.linkOpen = true ∧ s.block.buf.length ≤ Config.bufCap ∧
      (∀ g ∈ [optFrame] ++ dataFrame :: [optFrame], Datagram g) ∧
      s.block.buf = ([optFrame] ++ dataFrame :: [optFrame]).flatten ++ [0x71#8] ∧
      s.host = List.replicate ([optFrame].length + 1) pollAction ++ [] ∧
      s.transport.reads.listed = List.replicate ([optFrame].length + 1) emptyRead ++ [] := by
  refine ⟨rfl, rfl, Nat.le_trans (by decide +kernel) bufCap_ge, ?_, rfl, rfl, rfl⟩
  simp [datagram_optFrame, datagram_dataFrame]

/-- One frame in three chunks, as in PR-1. -/
theorem witness_FragmentsReassemble :
    let chunks := [[0x71#8, 0x11#8], [0x01#8, 0x50#8]]
    let last := zeros 15 ++ [0x2D#8]
    let s := issuing [pollAction, pollAction, pollAction] (reading ((chunks ++ [last]).map chunk) (ready []))
    s.block.cfgValid = true ∧ s.block.linkOpen = true ∧ s.block.buf = [] ∧ (∀ c ∈ chunks ++ [last], c ≠ []) ∧
      (chunks ++ [last]).flatten = optFrame ∧ Datagram optFrame ∧
      s.host = List.replicate (chunks.length + 1) pollAction ++ [] ∧
      s.transport.reads.listed = (chunks ++ [last]).map (fun c => { bytes := c, status := .ok }) ++ [] := by
  refine ⟨rfl, rfl, rfl, by decide, by decide, datagram_optFrame, rfl, rfl⟩

/-- P-12a, P-12b and P-12c. -/
theorem witness_ShortLengths :
    KindByte 0x50#8 ∧ KindByte 0x10#8 ∧
      (∀ b1 ∈ [0x00#8, 0x01#8], (ready [0x71#8, b1, 0x01#8, 0x50#8]).block.buf = 0x71#8 :: b1 :: 0x01#8 :: 0x50#8 :: []) ∧
      (ready shortFrame).block.buf = 0x71#8 :: 0x02#8 :: 0x01#8 :: 0x50#8 :: 0x3C#8 :: [] :=
  ⟨.inl rfl, .inr rfl, by decide, rfl⟩

/-- The first byte behind the header, and the last byte. -/
theorem witness_CorruptionDetected :
    WholeFrame optFrame ∧ ∀ i ∈ [4, 19],
      4 ≤ i ∧ i < optFrame.length ∧ optFrame[i]? ≠ some 0x01#8 ∧
        (ready (optFrame.set i 0x01#8 ++ [])).block.buf = optFrame.set i 0x01#8 ++ [] :=
  ⟨datagram_optFrame.1, by decide⟩

/-- A full buffer, and a command. -/
theorem witness_StepKeepsInvariant :
    let s := issuing [.command (Command.ofWord 0x04#8)] (ready (zeros Config.bufCap))
    s.block.Inv ∧ ∃ t, step s = .next t :=
  ⟨⟨by simp [issuing, ready, zeros], by decide, fun _ => rfl⟩, _, rfl⟩

/-- Both bits set, and an OPEN. -/
theorem witness_FaultIsSticky :
    let s := issuing [.command (Command.ofWord 0x01#8)] (opening .ok (ready []).setBufOvf.setCntOvf)
    (∃ t, step s = .next t) ∧ (∀ rest, s.host ≠ .reset :: rest) ∧ s.block.fault.getLsbD 0 = true ∧
      s.block.fault.getLsbD 1 = true :=
  ⟨⟨_, rfl⟩, by simp [issuing], rfl, rfl⟩

theorem witness_EveryCommandResponds :
    (∃ t, exec .getstats (ready []) = .next t) ∧ ∃ t, exec .hdrOptStd (ready optFrame) = .next t :=
  ⟨⟨_, rfl⟩, _, rfl⟩

theorem witness_OnlyOpenConfigures :
    (∃ t, exec .closeCmd (ready []) = .next t) ∧ ∀ p t, Instr.closeCmd ≠ .openCmd p t := ⟨⟨_, rfl⟩, by simp⟩

theorem witness_CommandFrame :
    (∃ t, exec (.openCmd port timeout) (opening .ok (ready optFrame)) = .next t) ∧
      Instr.openCmd port timeout ≠ .poll ∧ rowLength (.openCmd port timeout) = none := ⟨⟨_, rfl⟩, by simp, rfl⟩

/-- A POLL that reads, and one that only reopens. -/
theorem witness_PollFrame :
    (∃ t, exec .poll (reading [chunk []] (ready [])) = .next t) ∧
      ∃ t, exec .poll (opening .err (unlinked optFrame)) = .next t := ⟨⟨_, rfl⟩, _, rfl⟩

theorem witness_HeaderRowFrame :
    rowLength .hdrDataStd = some 203 ∧ ∃ t, exec .hdrDataStd (ready dataFrame) = .next t := ⟨rfl, _, rfl⟩

end Sys2Proof.Tests
end

section
/-! Proofs for 00_scope.md: what one step does with the host's next action, and that it always answers. -/

namespace Sys2Proof.Proofs

open Sys2Proof.Machine Sys2Proof.Laws

/-! ## One step, by the host's next action -/

theorem step_idle {s : State} (hhost : s.host = []) : step s = .next s := by simp [step, hhost]

theorem step_reset {s : State} {rest : List HostAction} (hhost : s.host = .reset :: rest) :
    step s = .next (resetBlock (s.accept rest)) := by simp [step, hhost]

theorem step_decoded {s : State} {c : Command} {rest : List HostAction} {i : Instr}
    (hhost : s.host = .command c :: rest) (hdec : decodeCommand c = .ok i) :
    step s = exec i (s.accept rest) := by simp [step, hhost, runCommand, hdec]

theorem step_illegal {s : State} {c : Command} {rest : List HostAction} {e : DecodeError}
    (hhost : s.host = .command c :: rest) (hdec : decodeCommand c = .error e) :
    step s = .next (illegalCommand (s.accept rest)) := by simp [step, hhost, runCommand, hdec]

/-! ## All that the stages of POLL can do -/

theorem openAnswer_releaseLink (s : State) : (releaseLink s).openAnswer = s.openAnswer := by
  unfold releaseLink
  split <;> rfl

/-- The recovery from a read fault, by the transport's answer to the reopen (42_poll.md R104 to R106). -/
theorem recoverLink_cases (s : State) :
    (s.openAnswer = .ok ∧
        recoverLink s = parseBuffer ((issueOpen (releaseLink (s.setRf true))).setLink true)) ∨
      (s.openAnswer = .err ∧
        recoverLink s = .next (raiseCondition .transportReadFault (issueOpen (releaseLink (s.setRf true))))) := by
  have hans : (releaseLink (s.setRf true)).openAnswer = s.openAnswer := openAnswer_releaseLink _
  cases h : s.openAnswer <;> simp [recoverLink, hans, h]

/-- Stage 1 behind the read, by the status of the answer (42_poll.md R102). -/
theorem ingest_cases (a : ReadAnswer) (s : State) :
    (a.status ≠ .err ∧ ingest a s = parseBuffer (bufAppend a.bytes s)) ∨
      (a.status = .err ∧ ingest a s = recoverLink (if Config.faultAppend then bufAppend a.bytes s else s)) := by
  cases h : a.status <;> simp [ingest, h]

/-- Stages 0 and 1, by the configuration, the link and the length of the read (42_poll.md R101 to R103). -/
theorem execPoll_cases (s : State) :
    (s.block.cfgValid = false ∧ execPoll s = .next (raiseCondition .unconfigured (s.setRf false))) ∨
      (s.block.cfgValid = true ∧ s.block.linkOpen = false ∧ execPoll s = recoverLink (s.setRf false)) ∨
      (s.block.cfgValid = true ∧ s.block.linkOpen = true ∧ KeepsReadDuty s ∧
        execPoll s = ingest s.readAnswer (issueRead (s.setRf false))) ∨
      (s.block.cfgValid = true ∧ s.block.linkOpen = true ∧ ¬ KeepsReadDuty s ∧
        execPoll s = .refused .readBeyondChunkMax) := by
  have hpoll : execPoll s =
      if s.block.cfgValid then
        if s.block.linkOpen then
          if s.readAnswer.bytes.length ≤ 1024 then ingest s.readAnswer (issueRead (s.setRf false))
          else .refused .readBeyondChunkMax
        else recoverLink (s.setRf false)
      else .next (raiseCondition .unconfigured (s.setRf false)) := rfl
  cases hcfg : s.block.cfgValid
  · simp [hpoll, hcfg]
  · cases hlink : s.block.linkOpen
    · simp [hpoll, hcfg, hlink]
    · by_cases hduty : s.readAnswer.bytes.length ≤ 1024 <;> simp [hpoll, hcfg, hlink, KeepsReadDuty, hduty]

/-! ## Every command completes (00_scope.md R3; 60_exceptions.md R140) -/

/-- What keeps a POLL at `s` from being refused: where it reads, the transport keeps its duty (20_memory.md R58). -/
def PollReadsInDuty (s : State) : Prop :=
  s.block.cfgValid = true → s.block.linkOpen = true → KeepsReadDuty s

theorem parseHeader_answers {s : State} {tail : List Byte} (hbuf : s.block.buf = 0x71#8 :: tail) :
    ∃ t, parseHeader s = .next t := by
  rcases parseHeader_cases s tail hbuf with ⟨-, h⟩ | ⟨_, _, _, _, -, -, h⟩ | ⟨_, _, _, -, -, h⟩ <;>
    exact ⟨_, h⟩

theorem parseBuffer_answers (s : State) : ∃ t, parseBuffer s = .next t := by
  rcases parseBuffer_cases s with ⟨-, h⟩ | ⟨-, -, h⟩ | ⟨g, tail, -, -, h⟩
  · exact ⟨_, h⟩
  · exact ⟨_, h⟩
  · rw [h]
    exact parseHeader_answers (setBuf_buf s _)

theorem recoverLink_answers (s : State) : ∃ t, recoverLink s = .next t := by
  rcases recoverLink_cases s with ⟨-, h⟩ | ⟨-, h⟩
  · rw [h]
    exact parseBuffer_answers _
  · exact ⟨_, h⟩

theorem ingest_answers (a : ReadAnswer) (s : State) : ∃ t, ingest a s = .next t := by
  rcases ingest_cases a s with ⟨-, h⟩ | ⟨-, h⟩ <;> rw [h]
  · exact parseBuffer_answers _
  · exact recoverLink_answers _

theorem execPoll_answers {s : State} (hduty : PollReadsInDuty s) : ∃ t, execPoll s = .next t := by
  rcases execPoll_cases s with ⟨-, h⟩ | ⟨-, -, h⟩ | ⟨-, -, -, h⟩ | ⟨hcfg, hlink, hlong, -⟩
  · exact ⟨_, h⟩
  · rw [h]
    exact recoverLink_answers _
  · rw [h]
    exact ingest_answers _ _
  · exact absurd (hduty hcfg hlink) hlong

/-- POLL is the one instruction that reads, so the read duty alone makes every instruction answer. -/
theorem exec_answers (i : Instr) {s : State} (hduty : PollReadsInDuty s) : ∃ t, exec i s = .next t := by
  cases i with
  | poll => exact execPoll_answers hduty
  | _ => exact ⟨_, rfl⟩

/-! ## The obligations -/

/-- Settles O2, by the two equations of a step. -/
theorem stepRunsDecodedCommand : Obligations.StepRunsDecodedCommand :=
  ⟨fun _ _ _ _ hhost hdec => step_decoded hhost hdec, fun _ hhost => step_idle hhost⟩

/-- Settles O3, by the host's next action and, for a command, what it decodes to. -/
theorem stepAlwaysAnswers : Obligations.StepAlwaysAnswers := by
  intro s hduty
  match hhost : s.host with
  | [] => exact ⟨s, step_idle hhost⟩
  | .reset :: rest => exact ⟨_, step_reset hhost⟩
  | .command c :: rest =>
    match hdec : decodeCommand c with
    | .error _ => exact ⟨_, step_illegal hhost hdec⟩
    | .ok i =>
      have haccept : PollReadsInDuty (s.accept rest) := hduty
      rw [step_decoded hhost hdec]
      exact exec_answers i haccept

end Sys2Proof.Proofs
end

section
/-! Proofs for 10_state.md: every write that an instruction can make to the block, and from it the invariant of the block,
the sticky `FAULT` bits and the one writer of the configuration; the frame of the six commands; the percentage. -/

namespace Sys2Proof.Proofs

open Sys2Proof.Machine Sys2Proof.Laws

/-! ## What the shared operations leave unchanged -/

/-- The transport is not held afterwards, whether or not it was before. -/
@[simp] theorem releaseLink_block (s : State) : (releaseLink s).block = { s.block with linkOpen := false } := by
  cases h : s.block.linkOpen
  · rw [releaseLink_free s h, ← h]
  · rw [releaseLink_held s h]
    rfl

@[simp] theorem releaseLink_frame (s : State) :
    (releaseLink s).host = s.host ∧ (releaseLink s).rf = s.rf ∧
      (releaseLink s).transport.reads = s.transport.reads := by
  cases h : s.block.linkOpen
  · simp [releaseLink_free s h]
  · simp [releaseLink_held s h]

@[simp] theorem incTotal_frame (s : State) :
    (incTotal s).block.buf = s.block.buf ∧ (incTotal s).block.goodReads = s.block.goodReads ∧
      (incTotal s).block.linkOpen = s.block.linkOpen ∧ (incTotal s).block.cfgValid = s.block.cfgValid ∧
      (incTotal s).block.cfgPort = s.block.cfgPort ∧ (incTotal s).block.cfgTimeout = s.block.cfgTimeout ∧
      (incTotal s).host = s.host ∧ (incTotal s).transport = s.transport ∧ (incTotal s).requests = s.requests ∧
      (incTotal s).rf = s.rf ∧ (incTotal s).response = s.response := by
  rcases incTotal_cases s with ⟨-, heq⟩ | ⟨-, heq⟩ <;> simp [heq]

@[simp] theorem incGood_frame (s : State) :
    (incGood s).block.buf = s.block.buf ∧ (incGood s).block.totalReads = s.block.totalReads ∧
      (incGood s).block.linkOpen = s.block.linkOpen ∧ (incGood s).block.cfgValid = s.block.cfgValid ∧
      (incGood s).block.cfgPort = s.block.cfgPort ∧ (incGood s).block.cfgTimeout = s.block.cfgTimeout ∧
      (incGood s).host = s.host ∧ (incGood s).transport = s.transport ∧ (incGood s).requests = s.requests ∧
      (incGood s).rf = s.rf ∧ (incGood s).response = s.response := by
  rcases incGood_cases s with ⟨-, heq⟩ | ⟨-, heq⟩ <;> simp [heq]

theorem incTotal_keeps_fault {s : State} {k : Nat} (hbit : s.block.fault.getLsbD k = true) :
    (incTotal s).block.fault.getLsbD k = true := by
  rcases incTotal_cases s with ⟨-, heq⟩ | ⟨-, heq⟩ <;> simp [heq, hbit]

theorem incGood_keeps_fault {s : State} {k : Nat} (hbit : s.block.fault.getLsbD k = true) :
    (incGood s).block.fault.getLsbD k = true := by
  rcases incGood_cases s with ⟨-, heq⟩ | ⟨-, heq⟩ <;> simp [heq, hbit]

/-! ## The counters keep their order (10_state.md R25) -/

theorem countUp_counterMax : countUp counterMax = counterMax := rfl

theorem countUp_of_ne {x : Counter} (h : x ≠ counterMax) : countUp x = x + 1#32 :=
  if_neg fun hmax => h (BitVec.eq_of_toNat_eq hmax)

@[simp] theorem incTotal_totalReads (s : State) : (incTotal s).block.totalReads = countUp s.block.totalReads := by
  rcases incTotal_cases s with ⟨hmax, heq⟩ | ⟨hmax, heq⟩
  · rw [heq, setCntOvf_totalReads, hmax, countUp_counterMax]
  · rw [heq, countUp_of_ne hmax]

@[simp] theorem incGood_goodReads (s : State) : (incGood s).block.goodReads = countUp s.block.goodReads := by
  rcases incGood_cases s with ⟨hmax, heq⟩ | ⟨hmax, heq⟩
  · rw [heq, setCntOvf_goodReads, hmax, countUp_counterMax]
  · rw [heq, countUp_of_ne hmax]

/-- A saturating increment, over naturals. -/
theorem countUp_toNat (x : Counter) : (countUp x).toNat = min (x.toNat + 1) (2 ^ 32 - 1) := by
  have hlt := x.isLt
  unfold countUp
  split
  · omega
  · rw [BitVec.toNat_add, BitVec.toNat_ofNat]
    omega

theorem incTotal_keeps_order {s : State} (h : s.block.goodReads ≤ s.block.totalReads) :
    (incTotal s).block.goodReads ≤ (incTotal s).block.totalReads := by
  have hlt := s.block.totalReads.isLt
  simp only [incTotal_frame, incTotal_totalReads, BitVec.le_def, countUp_toNat] at h ⊢
  omega

theorem incGood_incTotal_keeps_order {s : State} (h : s.block.goodReads ≤ s.block.totalReads) :
    (incGood (incTotal s)).block.goodReads ≤ (incGood (incTotal s)).block.totalReads := by
  simp only [incGood_frame, incGood_goodReads, incTotal_frame, incTotal_totalReads, BitVec.le_def,
    countUp_toNat] at h ⊢
  omega

/-! ## Every write that an instruction can make to the block -/

/-- One write to the block by the instruction `i` (the table of 10_state.md, section 1). OPEN alone configures, and the
transport is acquired only under a stored configuration. -/
inductive BlockWrite (i : Instr) : Block → Block → Prop
  | consume {b : Block} {buf : List Byte} (hsuffix : buf <:+ b.buf) : BlockWrite i b { b with buf := buf }
  | append {b : Block} {bytes : List Byte} (hfits : b.buf.length + bytes.length ≤ Config.bufCap) :
      BlockWrite i b { b with buf := b.buf ++ bytes }
  | raiseFault (b : Block) (bits : BitVec 2) : BlockWrite i b { b with fault := b.fault ||| bits }
  | countAttempt (s : State) : BlockWrite i s.block (incTotal s).block
  | countGood (s : State) : BlockWrite i s.block (incGood (incTotal s)).block
  | release (b : Block) : BlockWrite i b { b with linkOpen := false }
  | acquire {b : Block} (hcfg : b.cfgValid = true) : BlockWrite i b { b with linkOpen := true }
  | configure {b : Block} {port : PortId} {timeout : Timeout} (hopen : i = .openCmd port timeout) :
      BlockWrite i b { b with cfgPort := port, cfgTimeout := timeout, cfgValid := true }

/-- Writes by the instruction `i`, one after the other. -/
abbrev BlockWrites (i : Instr) : Block → Block → Prop := Relation.ReflTransGen (BlockWrite i)

/-- What each write keeps, all of them keep. -/
theorem BlockWrites.keeps {i : Instr} {P : Block → Prop} (hP : ∀ {b b'}, BlockWrite i b b' → P b → P b')
    {b b' : Block} (h : BlockWrites i b b') (hb : P b) : P b' := by
  induction h with
  | refl => exact hb
  | tail _ hwrite ih => exact hP hwrite ih

theorem bufAppend_writes (i : Instr) (bytes : List Byte) (s : State) :
    BlockWrites i s.block (bufAppend bytes s).block := by
  rcases bufAppend_cases bytes s with ⟨hfits, heq⟩ | ⟨-, heq⟩ <;> rw [heq]
  · exact .single (.append hfits)
  · exact .single (.raiseFault _ _)

theorem bufDrop_writes (i : Instr) (n : Nat) (s : State) : BlockWrites i s.block (bufDrop n s).block :=
  .single (.consume (List.drop_suffix n _))

theorem releaseLink_writes (i : Instr) (s : State) : BlockWrites i s.block (releaseLink s).block := by
  rw [releaseLink_block]
  exact .single (.release _)

theorem assembleFrame_writes (i : Instr) (b1 : Byte) (s : State) :
    BlockWrites i s.block (assembleFrame b1 s).block := by
  rcases assembleFrame_cases b1 s with ⟨-, h⟩ | ⟨-, -, h⟩ | ⟨-, -, -, h⟩ | ⟨-, -, -, h⟩ <;> rw [h]
  · exact .refl
  · exact .head (.countAttempt s) (bufDrop_writes i _ _)
  · exact .head (.countGood s) (bufDrop_writes i _ _)
  · exact .head (.countGood s) (bufDrop_writes i _ _)

theorem parseHeader_writes (i : Instr) {s t : State} {tail : List Byte} (hbuf : s.block.buf = 0x71#8 :: tail)
    (h : parseHeader s = .next t) : BlockWrites i s.block t.block := by
  rcases parseHeader_cases s tail hbuf with ⟨-, heq⟩ | ⟨_, _, _, _, -, -, heq⟩ | ⟨b1, _, _, -, -, heq⟩ <;>
    rw [heq] at h <;> cases h
  · exact .refl
  · exact bufDrop_writes i 1 s
  · exact assembleFrame_writes i b1 s

theorem parseBuffer_writes (i : Instr) {s t : State} (h : parseBuffer s = .next t) :
    BlockWrites i s.block t.block := by
  rcases parseBuffer_cases s with ⟨-, heq⟩ | ⟨-, -, heq⟩ | ⟨g, tail, hbuf, -, heq⟩ <;> rw [heq] at h
  · cases h
    exact .refl
  · cases h
    exact .refl
  · exact .head (.consume ⟨g, hbuf.symm⟩) (parseHeader_writes i (setBuf_buf s _) h)

theorem recoverLink_writes (i : Instr) {s t : State} (hcfg : s.block.cfgValid = true)
    (h : recoverLink s = .next t) : BlockWrites i s.block t.block := by
  have hrelease : BlockWrites i s.block (releaseLink (s.setRf true)).block := releaseLink_writes i (s.setRf true)
  rcases recoverLink_cases s with ⟨-, heq⟩ | ⟨-, heq⟩ <;> rw [heq] at h
  · have hacquire : BlockWrite i (releaseLink (s.setRf true)).block
        ((issueOpen (releaseLink (s.setRf true))).setLink true).block := .acquire (by simpa using hcfg)
    exact (hrelease.tail hacquire).trans (parseBuffer_writes i h)
  · cases h
    exact hrelease

theorem ingest_writes (i : Instr) {a : ReadAnswer} {s t : State} (hcfg : s.block.cfgValid = true)
    (h : ingest a s = .next t) : BlockWrites i s.block t.block := by
  rcases ingest_cases a s with ⟨-, heq⟩ | ⟨-, heq⟩ <;> rw [heq] at h
  · exact (bufAppend_writes i a.bytes s).trans (parseBuffer_writes i h)
  · split at h
    · obtain ⟨-, -, -, -, -, -, -, -, hkept, -⟩ := bufAppend_frame a.bytes s
      exact (bufAppend_writes i a.bytes s).trans (recoverLink_writes i (hkept.trans hcfg) h)
    · exact recoverLink_writes i hcfg h

theorem execPoll_writes (i : Instr) {s t : State} (h : execPoll s = .next t) : BlockWrites i s.block t.block := by
  rcases execPoll_cases s with ⟨-, heq⟩ | ⟨hcfg, -, heq⟩ | ⟨hcfg, -, -, heq⟩ | ⟨-, -, -, heq⟩ <;> rw [heq] at h
  · cases h
    exact .refl
  · exact recoverLink_writes i (s := s.setRf false) hcfg h
  · exact ingest_writes i (s := issueRead (s.setRf false)) hcfg h
  · cases h

theorem acquireLink_writes (i : Instr) {s : State} (hcfg : s.block.cfgValid = true) :
    BlockWrites i s.block (acquireLink s).block := by
  rcases acquireLink_cases s with ⟨-, heq⟩ | ⟨-, heq⟩ <;> rw [heq]
  · exact .head (.acquire hcfg) (.single (.consume List.nil_suffix))
  · exact .refl

theorem openCmd_writes (port : PortId) (timeout : Timeout) (s : State) :
    BlockWrites (.openCmd port timeout) s.block (acquireLink (storeConfig port timeout (releaseLink s))).block :=
  ((releaseLink_writes _ s).tail (.configure rfl)).trans (acquireLink_writes _ (storeConfig_cfgValid _ _ _))

theorem execSend_held (payload : List Byte) {s : State} (h : s.block.linkOpen = true) :
    execSend payload s = .next (sendPayload payload s) := by simp [execSend, h]

theorem execSend_free (payload : List Byte) {s : State} (h : s.block.linkOpen = false) :
    execSend payload s = .next (raiseCondition (.transportWriteError .payload) s) := by simp [execSend, h]

/-- SEND writes to the line only, and no element of the block (44_send_command.md R135). -/
@[simp] theorem sendPayload_frame (payload : List Byte) (s : State) :
    (sendPayload payload s).block = s.block ∧ (sendPayload payload s).host = s.host ∧
      (sendPayload payload s).rf = s.rf ∧ (sendPayload payload s).transport.reads = s.transport.reads := by
  unfold sendPayload sendChecksum
  split
  · split <;> simp
  · simp

/-- All that an instruction that answers has done to the block is a sequence of its writes. -/
theorem exec_writes {i : Instr} {s t : State} (h : exec i s = .next t) : BlockWrites i s.block t.block := by
  cases i with
  | openCmd port timeout => cases h; exact openCmd_writes port timeout s
  | closeCmd => cases h; exact releaseLink_writes _ s
  | poll => exact execPoll_writes _ h
  | send payload =>
    cases h
    split
    · obtain ⟨hblock, -⟩ := sendPayload_frame payload s
      rw [hblock]
    · exact .refl
  | getstats | csumGen _ | csumCheck _ => cases h; exact .refl
  | hdrOptStd | hdrDataStd | hdrDataLen20 | hdrOptLen203 | hdrOptOther _ | hdrDataOther _ =>
    cases h; exact assembleFrame_writes _ _ s

/-- All that a step that answers can do to the block. -/
theorem step_block_cases {s t : State} (h : step s = .next t) :
    t.block = s.block ∨ ((∃ rest, s.host = .reset :: rest) ∧ t.block = Block.reset) ∨
      ∃ i, BlockWrites i s.block t.block := by
  match hhost : s.host with
  | [] =>
    rw [step_idle hhost] at h
    cases h
    exact .inl rfl
  | .reset :: rest =>
    rw [step_reset hhost] at h
    cases h
    exact .inr (.inl ⟨⟨rest, rfl⟩, rfl⟩)
  | .command c :: rest =>
    match hdec : decodeCommand c with
    | .error _ =>
      rw [step_illegal hhost hdec] at h
      cases h
      exact .inl rfl
    | .ok i =>
      rw [step_decoded hhost hdec] at h
      have hwrites := exec_writes h
      exact .inr (.inr ⟨i, hwrites⟩)

/-! ## The invariant, the sticky bits, the configuration -/

theorem blockWrite_keeps_inv {i : Instr} {b b' : Block} (hwrite : BlockWrite i b b') (hinv : b.Inv) : b'.Inv := by
  obtain ⟨hbuf, horder, hlink⟩ := hinv
  cases hwrite with
  | consume hsuffix => exact ⟨hsuffix.length_le.trans hbuf, horder, hlink⟩
  | append hfits => exact ⟨by simpa using hfits, horder, hlink⟩
  | raiseFault => exact ⟨hbuf, horder, hlink⟩
  | countAttempt s => exact ⟨by simpa using hbuf, incTotal_keeps_order horder, by simpa using hlink⟩
  | countGood s => exact ⟨by simpa using hbuf, incGood_incTotal_keeps_order horder, by simpa using hlink⟩
  | release => exact ⟨hbuf, horder, Bool.noConfusion⟩
  | acquire hcfg => exact ⟨hbuf, horder, fun _ => hcfg⟩
  | configure => exact ⟨hbuf, horder, fun _ => rfl⟩

theorem blockWrite_keeps_fault {i : Instr} {b b' : Block} {k : Nat} (hwrite : BlockWrite i b b')
    (hbit : b.fault.getLsbD k = true) : b'.fault.getLsbD k = true := by
  cases hwrite with
  | raiseFault => simp [hbit]
  | countAttempt s => exact incTotal_keeps_fault hbit
  | countGood s => exact incGood_keeps_fault (incTotal_keeps_fault hbit)
  | consume | append | release | acquire | configure => exact hbit

/-- The three elements that OPEN stores are those of `c`. -/
def SameConfig (c b : Block) : Prop :=
  b.cfgValid = c.cfgValid ∧ b.cfgPort = c.cfgPort ∧ b.cfgTimeout = c.cfgTimeout

theorem blockWrite_keeps_config {i : Instr} {b b' c : Block} (hwrite : BlockWrite i b b')
    (hopen : ∀ port timeout, i ≠ .openCmd port timeout) (hsame : SameConfig c b) : SameConfig c b' := by
  cases hwrite with
  | configure hi => exact absurd hi (hopen _ _)
  | countAttempt s => simpa [SameConfig] using hsame
  | countGood s => simpa [SameConfig] using hsame
  | consume | append | raiseFault | release | acquire => exact hsame

/-- Settles O53: the buffer is empty, the counters are equal and the transport is not held. -/
theorem resetMeetsInvariant : Obligations.ResetMeetsInvariant :=
  ⟨Nat.zero_le _, BitVec.le_refl 0#32, Bool.noConfusion⟩

/-- Settles O52: a reset gives the reset block, and every other step makes writes that each keep the invariant. -/
theorem stepKeepsInvariant : Obligations.StepKeepsInvariant := by
  intro s t hinv hstep
  rcases step_block_cases hstep with hsame | ⟨-, hreset⟩ | ⟨i, hwrites⟩
  · rwa [hsame]
  · rw [hreset]
    exact resetMeetsInvariant
  · exact hwrites.keeps blockWrite_keeps_inv hinv

/-- Settles O54: no write of an instruction clears a bit of `FAULT`. -/
theorem faultIsSticky : Obligations.FaultIsSticky := by
  intro s t hstep hnoreset k hbit
  rcases step_block_cases hstep with hsame | ⟨⟨rest, hhost⟩, -⟩ | ⟨i, hwrites⟩
  · rwa [hsame]
  · exact absurd hhost (hnoreset rest)
  · exact hwrites.keeps blockWrite_keeps_fault hbit

/-- Settles O56: the one write to the configuration is OPEN's. -/
theorem onlyOpenConfigures : Obligations.OnlyOpenConfigures := by
  intro i s t hexec hopen
  have hrefl : SameConfig s.block s.block := ⟨rfl, rfl, rfl⟩
  exact (exec_writes hexec).keeps (fun hwrite => blockWrite_keeps_config hwrite hopen) hrefl

/-! ## The frame of the commands other than POLL -/

theorem acquireLink_buf (s : State) :
    (acquireLink s).block.buf = s.block.buf ∨
      ((acquireLink s).block.buf = [] ∧ ∃ r, (acquireLink s).response = some r ∧ r.code = .ok) := by
  rcases acquireLink_cases s with ⟨-, heq⟩ | ⟨-, heq⟩ <;> rw [heq]
  · exact .inr ⟨rfl, _, rfl, rfl⟩
  · exact .inl rfl

/-- All that OPEN's attempt leaves unchanged, whatever the transport answers. -/
@[simp] theorem acquireLink_frame (s : State) :
    (acquireLink s).block.totalReads = s.block.totalReads ∧ (acquireLink s).block.goodReads = s.block.goodReads ∧
      (acquireLink s).block.fault = s.block.fault ∧ (acquireLink s).host = s.host ∧ (acquireLink s).rf = s.rf ∧
      (acquireLink s).transport.reads = s.transport.reads := by
  rcases acquireLink_cases s with ⟨-, heq⟩ | ⟨-, heq⟩ <;> simp [heq]

/-- Settles O57, command by command: OPEN by what its attempt does, CLOSE by the frame of the release, SEND by the frame of
its writes. -/
theorem commandFrame : Obligations.CommandFrame := by
  intro i s t hexec hpoll hrow
  cases i with
  | openCmd port timeout =>
    cases hexec
    have hbuf := acquireLink_buf (storeConfig port timeout (releaseLink s))
    simp only [storeConfig_buf, releaseLink_block] at hbuf
    simpa using hbuf
  | closeCmd => cases hexec; simp
  | getstats | csumGen _ | csumCheck _ => cases hexec; simp
  | send payload => cases hexec; split <;> simp
  | poll => exact absurd rfl hpoll
  | hdrOptStd | hdrDataStd | hdrDataLen20 | hdrOptLen203 | hdrOptOther _ | hdrDataOther _ => cases hrow

/-! ## The configuration before any OPEN -/

/-- The machine with another stored port and timeout, and the same `CFG_VALID`. -/
def withConfig (port : PortId) (timeout : Timeout) (s : State) : State :=
  { s with block := { s.block with cfgPort := port, cfgTimeout := timeout } }

theorem decodeBytes_rowLength {bytes : List Byte} {row : List Byte → Instr} {i : Instr}
    (hrow : rowLength (row bytes) = none) (h : decodeBytes bytes row = .ok i) : rowLength i = none := by
  unfold decodeBytes at h
  split at h <;> cases h
  exact hrow

/-- The command port gives the seven commands only, and no frame-header row (30_encoding.md R61). -/
theorem decodeCommand_rowLength {c : Command} {i : Instr} (h : decodeCommand c = .ok i) : rowLength i = none := by
  unfold decodeCommand at h
  split at h
  · cases h
  · split at h
    case h_5 | h_6 | h_7 => exact decodeBytes_rowLength rfl h
    all_goals cases h
    all_goals rfl

theorem releaseLink_withConfig (port : PortId) (timeout : Timeout) (s : State) :
    releaseLink (withConfig port timeout s) = withConfig port timeout (releaseLink s) := by
  cases h : s.block.linkOpen
  · rw [releaseLink_free s h, releaseLink_free (withConfig port timeout s) h]
  · rw [releaseLink_held s h, releaseLink_held (withConfig port timeout s) h]
    rfl

theorem sendPayload_withConfig (port : PortId) (timeout : Timeout) (payload : List Byte) (s : State) :
    sendPayload payload (withConfig port timeout s) = withConfig port timeout (sendPayload payload s) := by
  have hanswer : ∀ u : State, (withConfig port timeout u).writeAnswer = u.writeAnswer := fun _ => rfl
  have hissue : issueWrite payload (withConfig port timeout s) = withConfig port timeout (issueWrite payload s) := rfl
  simp only [sendPayload, sendChecksum, hissue, hanswer]
  cases s.writeAnswer
  · cases (issueWrite payload s).writeAnswer <;> rfl
  · rfl

theorem execPoll_unconfigured {s : State} (hcfg : s.block.cfgValid = false) :
    execPoll s = .next (raiseCondition .unconfigured (s.setRf false)) := by
  rcases execPoll_cases s with ⟨-, heq⟩ | ⟨hvalid, -⟩ | ⟨hvalid, -⟩ | ⟨hvalid, -⟩
  · exact heq
  all_goals simp [hcfg] at hvalid

/-- OPEN overwrites the configuration before it reads it. -/
theorem openCmd_withConfig (p port : PortId) (q timeout : Timeout) (s : State) :
    exec (.openCmd p q) (withConfig port timeout s) = exec (.openCmd p q) s := by
  simp only [exec, execOpenCmd, releaseLink_withConfig]
  rfl

/-- No command but OPEN reads or writes an absent configuration. -/
theorem exec_withConfig {i : Instr} {s : State} (port : PortId) (timeout : Timeout) (hrow : rowLength i = none)
    (hopen : ∀ p q, i ≠ .openCmd p q) (hcfg : s.block.cfgValid = false) :
    ∃ t, exec i s = .next t ∧ exec i (withConfig port timeout s) = .next (withConfig port timeout t) := by
  cases i with
  | openCmd p q => exact absurd rfl (hopen p q)
  | closeCmd =>
    refine ⟨_, rfl, ?_⟩
    simp only [exec, execCloseCmd, releaseLink_withConfig]
    rfl
  | poll => exact ⟨_, execPoll_unconfigured hcfg, execPoll_unconfigured (s := withConfig port timeout s) hcfg⟩
  | getstats | csumGen _ | csumCheck _ => exact ⟨_, rfl, rfl⟩
  | send payload =>
    cases hlink : s.block.linkOpen
    · exact ⟨_, execSend_free payload hlink, execSend_free payload (s := withConfig port timeout s) hlink⟩
    · refine ⟨_, execSend_held payload hlink, ?_⟩
      rw [← sendPayload_withConfig]
      exact execSend_held payload (s := withConfig port timeout s) hlink
  | hdrOptStd | hdrDataStd | hdrDataLen20 | hdrOptLen203 | hdrOptOther _ | hdrDataOther _ => cases hrow

/-- Settles O24: a reset and an OPEN write the two elements before anything reads them, and every other step leaves them as
they are. -/
theorem configUnreadBeforeOpen : Obligations.ConfigUnreadBeforeOpen := by
  intro s t port timeout hcfg hstep
  change ∃ t', step (withConfig port timeout s) = .next t' ∧
    (t' = t ∨ (t.block.cfgValid = false ∧ t' = withConfig port timeout t))
  match hhost : s.host with
  | [] =>
    rw [step_idle hhost] at hstep
    cases hstep
    exact ⟨_, step_idle hhost, .inr ⟨hcfg, rfl⟩⟩
  | .reset :: rest =>
    rw [step_reset hhost] at hstep
    cases hstep
    exact ⟨_, step_reset (s := withConfig port timeout s) hhost, .inl rfl⟩
  | .command c :: rest =>
    match hdec : decodeCommand c with
    | .error _ =>
      rw [step_illegal hhost hdec] at hstep
      cases hstep
      exact ⟨_, step_illegal (s := withConfig port timeout s) hhost hdec, .inr ⟨hcfg, rfl⟩⟩
    | .ok i =>
      rw [step_decoded hhost hdec] at hstep
      rw [step_decoded (s := withConfig port timeout s) hhost hdec]
      by_cases hopen : ∃ p q, i = .openCmd p q
      · obtain ⟨p, q, rfl⟩ := hopen
        exact ⟨t, (openCmd_withConfig p port q timeout (s.accept rest)).trans hstep, .inl rfl⟩
      · simp only [not_exists] at hopen
        have hrow := decodeCommand_rowLength hdec
        obtain ⟨u, hu, hu'⟩ := exec_withConfig (s := s.accept rest) port timeout hrow hopen hcfg
        obtain rfl : u = t := by simpa [hu] using hstep
        obtain ⟨hkept, -, -⟩ := onlyOpenConfigures i _ _ hu hopen
        exact ⟨_, hu', .inr ⟨hkept.trans hcfg, rfl⟩⟩

/-! ## The percentage (43_statistics.md R131) -/

/-- A counter is 0 as a rational exactly where it is 0 as a word. -/
theorem counter_cast_eq_zero (x : Counter) : (x.toNat : Rat) = 0 ↔ x = 0#32 := by
  rw [Nat.cast_eq_zero, BitVec.toNat_eq]
  rfl

theorem pctExact_pos {g t : Counter} (ht : t ≠ 0#32) : pctExact g t = (g.toNat : Rat) / t.toNat * 100 := if_neg ht

theorem pctExact_le {g t : Counter} (h : g ≤ t) : pctExact g t ≤ 100 := by
  by_cases ht : t = 0#32
  · simp [pctExact, ht]
  · have hle : (g.toNat : Rat) / t.toNat ≤ 1 := div_le_one_of_le₀ (by exact_mod_cast h) (Nat.cast_nonneg _)
    rw [pctExact_pos ht]
    linarith

theorem pctExact_nonneg (g t : Counter) : 0 ≤ pctExact g t := by
  unfold pctExact
  split
  · exact le_refl _
  · positivity

theorem pctExact_self {t : Counter} (ht : t ≠ 0#32) : pctExact t t = 100 := by
  have hne : (t.toNat : Rat) ≠ 0 := (counter_cast_eq_zero t).not.mpr ht
  rw [pctExact_pos ht, div_self hne, one_mul]

theorem pctExact_eq_zero_iff (g t : Counter) : pctExact g t = 0 ↔ g = 0#32 ∨ t = 0#32 := by
  by_cases ht : t = 0#32
  · simp [pctExact, ht]
  · rw [pctExact_pos ht, mul_eq_zero, div_eq_zero_iff, counter_cast_eq_zero, counter_cast_eq_zero]
    simp

/-- Settles O27, from the closed form of the percentage at `t > 0`. -/
theorem percentageWithinRange : Obligations.PercentageWithinRange := fun g t =>
  ⟨fun h => ⟨pctExact_nonneg g t, pctExact_le h⟩, fun heq ht => heq ▸ pctExact_self (heq ▸ ht),
    pctExact_eq_zero_iff g t⟩

end Sys2Proof.Proofs
end

section
/-! Proofs for 20_memory.md: the primitives of the frame buffer, what POLL requests and leaves unchanged, the configuration
that every open carries, and the ignored answers to `T_Close`. -/

namespace Sys2Proof.Proofs

open Sys2Proof.Machine Sys2Proof.Laws

/-! ## The primitives of the frame buffer (20_memory.md R47, R49) -/

/-- Settles O13: the two cases of the append, whose conditions exclude each other. -/
theorem bufAppendAllOrNothing : Obligations.BufAppendAllOrNothing := by
  intro bytes s
  rcases bufAppend_cases bytes s with ⟨hle, heq⟩ | ⟨hgt, heq⟩
  · exact ⟨fun _ => heq, fun hgt => absurd hle (Nat.not_le.mpr hgt)⟩
  · exact ⟨fun hle => absurd hle (Nat.not_le.mpr hgt), fun _ => heq⟩

/-- Settles O14: what `BufFind` finds has bytes other than `v` before it, and a first `v` is what it finds. -/
theorem bufFindsFirst : Obligations.BufFindsFirst := by
  refine fun s v => ⟨fun i => ⟨fun hfind => ?_, fun ⟨hat, hfirst⟩ => ?_⟩, ?_⟩
  · obtain ⟨g, tail, hbuf, rfl, hg⟩ := bufFind_some s v i hfind
    refine ⟨by simp [hbuf], fun j hj heq => ?_⟩
    rw [hbuf, List.getElem?_append_left hj] at heq
    exact hg v (List.mem_of_getElem? heq) rfl
  · obtain ⟨hi, hv⟩ := List.getElem?_eq_some_iff.mp hat
    have hsplit : s.block.buf = s.block.buf.take i ++ v :: s.block.buf.drop (i + 1) := by
      rw [← hv, List.getElem_cons_drop, List.take_append_drop]
    have hbefore : ∀ b ∈ s.block.buf.take i, b ≠ v := by
      rintro _ hb rfl
      obtain ⟨j, hj⟩ := List.mem_iff_getElem?.mp hb
      obtain ⟨hji, hj⟩ := by simpa [List.getElem?_take] using hj
      exact hfirst j hji hj
    rw [bufFind_after s v _ _ hbefore hsplit, List.length_take_of_le hi.le]
  · constructor
    · intro hnone hmem
      have hno : ∀ b ∈ s.block.buf, b ≠ v := by simpa [bufFind] using hnone
      exact hno v hmem rfl
    · exact fun hnot => bufFind_none s v fun b hb hbv => hnot (hbv ▸ hb)

/-! ## What stages 2 to 7 leave unchanged -/

/-- From `s` to `t` the host's list, the transport's answers and the requests are as they were, and `BUF` has lost bytes at
its head only. -/
structure ParseFrame (s t : State) : Prop where
  host : t.host = s.host
  transport : t.transport = s.transport
  requests : t.requests = s.requests
  suffix : t.block.buf <:+ s.block.buf

theorem assembleFrame_parseFrame (b1 : Byte) (s : State) : ParseFrame s (assembleFrame b1 s) := by
  rcases assembleFrame_cases b1 s with ⟨-, h⟩ | ⟨-, -, h⟩ | ⟨-, -, -, h⟩ | ⟨-, -, -, h⟩ <;> rw [h] <;>
    constructor <;> simp [List.drop_suffix, List.tail_suffix]

theorem parseHeader_parseFrame {s t : State} {tail : List Byte} (hbuf : s.block.buf = 0x71#8 :: tail)
    (h : parseHeader s = .next t) : ParseFrame s t := by
  rcases parseHeader_cases s tail hbuf with ⟨-, heq⟩ | ⟨_, _, _, _, -, -, heq⟩ | ⟨b1, _, _, -, -, heq⟩ <;>
    rw [heq] at h <;> cases h
  · exact ⟨rfl, rfl, rfl, List.suffix_rfl⟩
  · exact ⟨rfl, rfl, rfl, List.drop_suffix 1 _⟩
  · exact assembleFrame_parseFrame b1 s

theorem parseBuffer_parseFrame {s t : State} (h : parseBuffer s = .next t) : ParseFrame s t := by
  rcases parseBuffer_cases s with ⟨-, heq⟩ | ⟨-, -, heq⟩ | ⟨g, tail, hbuf, -, heq⟩ <;> rw [heq] at h
  · cases h
    exact ⟨rfl, rfl, rfl, List.suffix_rfl⟩
  · cases h
    exact ⟨rfl, rfl, rfl, List.suffix_rfl⟩
  · obtain ⟨hhost, htransport, hrequests, hsuffix⟩ := parseHeader_parseFrame (setBuf_buf s _) h
    exact ⟨hhost, htransport, hrequests, hsuffix.trans ⟨g, hbuf.symm⟩⟩

/-! ## What POLL requests and leaves unchanged (20_memory.md R53; 42_poll.md R102 to R106) -/

/-- What the release of the transport requests. -/
def releaseRequests (b : Block) : List Request := if b.linkOpen then [.close] else []

/-- `T_Open` with the configuration that `b` stores (20_memory.md R59). -/
def storedOpen (b : Block) : Request := .open (Config.linkConfig b.cfgPort b.cfgTimeout)

@[simp] theorem releaseLink_requests (s : State) :
    (releaseLink s).requests = s.requests ++ releaseRequests s.block := by
  cases h : s.block.linkOpen
  · simp [releaseLink_free s h, releaseRequests, h]
  · simp [releaseLink_held s h, releaseRequests, h]

@[simp] theorem releaseLink_transport_writes (s : State) :
    (releaseLink s).transport.writes = s.transport.writes := by
  cases h : s.block.linkOpen
  · rw [releaseLink_free s h]
  · rw [releaseLink_held s h]
    rfl

/-- From `s` to `t` the requests `new` have been issued and no write answer has been taken; the host's list has not
moved. -/
structure Issues (new : List Request) (s t : State) : Prop where
  host : t.host = s.host
  writes : t.transport.writes = s.transport.writes
  requests : t.requests = s.requests ++ new

/-- A recovery closes a held transport, reopens once, and takes nothing into the buffer (42_poll.md R104 to R106). -/
theorem recoverLink_issues {s t : State} (h : recoverLink s = .next t) :
    Issues (releaseRequests s.block ++ [storedOpen s.block]) s t ∧ t.block.buf <:+ s.block.buf := by
  have hparse : ParseFrame (issueOpen (releaseLink (s.setRf true))) t := by
    rcases recoverLink_cases s with ⟨-, heq⟩ | ⟨-, heq⟩ <;> rw [heq] at h
    · obtain ⟨hhost, htransport, hrequests, hsuffix⟩ := parseBuffer_parseFrame h
      exact ⟨hhost, htransport, hrequests, hsuffix⟩
    · cases h
      exact ⟨rfl, rfl, rfl, List.suffix_rfl⟩
  obtain ⟨hhost, htransport, hrequests, hsuffix⟩ := hparse
  exact ⟨⟨by simp [hhost], by simp [htransport], by simp [hrequests, storedOpen]⟩, by simpa using hsuffix⟩

theorem bufAppend_buf (bytes : List Byte) (s : State) :
    (bufAppend bytes s).block.buf = s.block.buf ∨ (bufAppend bytes s).block.buf = s.block.buf ++ bytes := by
  rcases bufAppend_cases bytes s with ⟨-, heq⟩ | ⟨-, heq⟩ <;> simp [heq]

/-- From `s` to `t` `bytes` have come in whole or not at all, and nothing that POLL asks for next has changed. -/
structure Ingested (bytes : List Byte) (s t : State) : Prop where
  host : t.host = s.host
  transport : t.transport = s.transport
  requests : t.requests = s.requests
  linkOpen : t.block.linkOpen = s.block.linkOpen
  reopen : storedOpen t.block = storedOpen s.block
  buf : t.block.buf = s.block.buf ∨ t.block.buf = s.block.buf ++ bytes

theorem bufAppend_ingested (bytes : List Byte) (s : State) : Ingested bytes s (bufAppend bytes s) := by
  constructor <;> simp [storedOpen, bufAppend_frame, bufAppend_buf]

/-- Behind the read, POLL either goes on without a request or recovers from a held transport (42_poll.md R102, R104). -/
theorem ingest_issues {a : ReadAnswer} {s t : State} (hlink : s.block.linkOpen = true)
    (h : ingest a s = .next t) :
    (Issues [] s t ∨ Issues [.close, storedOpen s.block] s t) ∧
      (t.block.buf <:+ s.block.buf ∨ t.block.buf <:+ s.block.buf ++ a.bytes) := by
  obtain ⟨u, hu, hrun⟩ : ∃ u, Ingested a.bytes s u ∧ (parseBuffer u = .next t ∨ recoverLink u = .next t) := by
    rcases ingest_cases a s with ⟨-, heq⟩ | ⟨-, heq⟩ <;> rw [heq] at h
    · exact ⟨_, bufAppend_ingested a.bytes s, .inl h⟩
    · refine ⟨_, ?_, .inr h⟩
      split
      · exact bufAppend_ingested a.bytes s
      · exact ⟨rfl, rfl, rfl, rfl, rfl, .inl rfl⟩
  obtain ⟨hhost, htransport, hrequests, hheld, hopen, hbuf⟩ := hu
  have hsuffix (ht : t.block.buf <:+ u.block.buf) :
      t.block.buf <:+ s.block.buf ∨ t.block.buf <:+ s.block.buf ++ a.bytes := by
    rcases hbuf with heq | heq <;> rw [heq] at ht
    · exact .inl ht
    · exact .inr ht
  rcases hrun with hparse | hrecover
  · obtain ⟨hhost', htransport', hrequests', ht⟩ := parseBuffer_parseFrame hparse
    exact ⟨.inl ⟨hhost'.trans hhost, by rw [htransport', htransport], by simp [hrequests', hrequests]⟩, hsuffix ht⟩
  · obtain ⟨⟨hhost', hwrites', hrequests'⟩, ht⟩ := recoverLink_issues hrecover
    refine ⟨.inr ⟨hhost'.trans hhost, by rw [hwrites', htransport], ?_⟩, hsuffix ht⟩
    simp [hrequests', hrequests, releaseRequests, hheld, hlink, hopen]

/-- Settles O58, by what a POLL does at all: it is not configured, it recovers without a read, or it reads. The
configuration is one that OPEN alone writes. -/
theorem pollFrame : Obligations.PollFrame := by
  intro s t h
  obtain ⟨hvalid, hport, htimeout⟩ := onlyOpenConfigures .poll s t h (by simp)
  refine ⟨hvalid, hport, htimeout, ?_⟩
  change execPoll s = .next t at h
  rcases execPoll_cases s with ⟨-, heq⟩ | ⟨-, hlink, heq⟩ | ⟨-, hlink, -, heq⟩ | ⟨-, -, -, heq⟩ <;> rw [heq] at h
  · cases h
    exact ⟨rfl, rfl, .inl ⟨List.mem_pair.mpr (.inl rfl), List.suffix_rfl⟩⟩
  · obtain ⟨⟨hhost, hwrites, hrequests⟩, hsuffix⟩ := recoverLink_issues h
    have hreopen : t.requests = s.requests ++ [storedOpen s.block] := by
      simpa [releaseRequests, hlink] using hrequests
    exact ⟨hhost, hwrites, .inl ⟨List.mem_pair.mpr (.inr hreopen), hsuffix⟩⟩
  · obtain ⟨hissues, hbuf⟩ := ingest_issues (s := issueRead (s.setRf false)) hlink h
    rcases hissues with ⟨hhost, hwrites, hrequests⟩ | ⟨hhost, hwrites, hrequests⟩
    · have hread : t.requests = s.requests ++ [.read 1024] := by simpa [Config.chunkMax] using hrequests
      exact ⟨hhost, hwrites, .inr ⟨List.mem_pair.mpr (.inl hread), hbuf⟩⟩
    · have hreopen : t.requests = s.requests ++ [.read 1024, .close, storedOpen s.block] := by
        simpa [Config.chunkMax] using hrequests
      exact ⟨hhost, hwrites, .inr ⟨List.mem_pair.mpr (.inr hreopen), hbuf⟩⟩
  · cases h

/-- Settles O32: of the four things that a POLL can do, the read that breaks the duty leaves the refusal. -/
theorem pollRefusesLongRead : Obligations.PollRefusesLongRead := by
  intro s hcfg hlink hlong
  rcases execPoll_cases s with ⟨hcfg', -⟩ | ⟨-, hlink', -⟩ | ⟨-, -, hduty, -⟩ | ⟨-, -, -, heq⟩
  · simp [hcfg] at hcfg'
  · simp [hlink] at hlink'
  · exact absurd hduty (Nat.not_le.mpr hlong)
  · exact heq

/-! ## The configuration that every open carries (20_memory.md R59) -/

/-- OPEN's one attempt carries what it finds stored, and leaves it stored (41_connection.md R90). -/
theorem acquireLink_issues (s : State) :
    (acquireLink s).requests = s.requests ++ [storedOpen (acquireLink s).block] ∧
      (acquireLink s).block.cfgValid = s.block.cfgValid := by
  rcases acquireLink_cases s with ⟨-, heq⟩ | ⟨-, heq⟩ <;> simp [heq, storedOpen]

/-- An open carries the configuration stored in `b`, and there is one. -/
def CarriesStored (b : Block) (cfg : LinkConfig) : Prop :=
  b.cfgValid = true ∧ cfg = Config.linkConfig b.cfgPort b.cfgTimeout

theorem openCmd_opens {port : PortId} {timeout : Timeout} {s : State} {cfg : LinkConfig}
    (hmem : .open cfg ∈ (acquireLink (storeConfig port timeout (releaseLink s))).requests) :
    .open cfg ∈ s.requests ∨ CarriesStored (acquireLink (storeConfig port timeout (releaseLink s))).block cfg := by
  obtain ⟨hrequests, hvalid⟩ := acquireLink_issues (storeConfig port timeout (releaseLink s))
  rw [hrequests] at hmem
  simpa [releaseRequests, CarriesStored, hvalid, storedOpen] using hmem

theorem execPoll_opens {s t : State} {cfg : LinkConfig} (h : execPoll s = .next t) (hmem : .open cfg ∈ t.requests) :
    .open cfg ∈ s.requests ∨ CarriesStored t.block cfg := by
  cases hcfg : s.block.cfgValid
  · rw [execPoll_unconfigured hcfg] at h
    cases h
    exact .inl hmem
  · obtain ⟨hvalid, hport, htimeout, -, -, hrequests⟩ := pollFrame s t h
    rw [CarriesStored, hvalid, hport, htimeout, hcfg]
    simp only [List.mem_pair] at hrequests
    rcases hrequests with ⟨heq | heq, -⟩ | ⟨heq | heq, -⟩ <;> rw [heq] at hmem
    · exact .inl hmem
    · simpa [Config.linkConfig, Config.baud, Config.parity, Config.stopBits] using hmem
    · exact .inl (by simpa using hmem)
    · simpa [Config.linkConfig, Config.baud, Config.parity, Config.stopBits] using hmem

theorem sendPayload_opens {payload : List Byte} {s : State} {cfg : LinkConfig}
    (hmem : .open cfg ∈ (sendPayload payload s).requests) : .open cfg ∈ s.requests := by
  unfold sendPayload sendChecksum at hmem
  split at hmem
  · split at hmem <;> simpa using hmem
  · simpa using hmem

/-- Every open of an instruction carries the configuration that is stored when the instruction ends. -/
theorem exec_opens {i : Instr} {s t : State} {cfg : LinkConfig} (h : exec i s = .next t)
    (hmem : .open cfg ∈ t.requests) : .open cfg ∈ s.requests ∨ CarriesStored t.block cfg := by
  cases i with
  | openCmd port timeout => cases h; exact openCmd_opens hmem
  | closeCmd => cases h; exact .inl (by simpa [releaseRequests] using hmem)
  | poll => exact execPoll_opens h hmem
  | send payload =>
    cases h
    split at hmem
    · exact .inl (sendPayload_opens hmem)
    · exact .inl hmem
  | getstats | csumGen _ | csumCheck _ => cases h; exact .inl hmem
  | hdrOptStd | hdrDataStd | hdrDataLen20 | hdrOptLen203 | hdrOptOther _ | hdrDataOther _ =>
    cases h; exact .inl ((assembleFrame_parseFrame _ s).requests ▸ hmem)

/-- Settles O23: a command starts with no request issued, so that every open is its own. -/
theorem openCarriesStoredConfig : Obligations.OpenCarriesStoredConfig := by
  intro s t c rest cfg hhost hstep hmem
  match hdec : decodeCommand c with
  | .error _ =>
    rw [step_illegal hhost hdec] at hstep
    cases hstep
    cases hmem
  | .ok i =>
    rw [step_decoded hhost hdec] at hstep
    exact (exec_opens hstep hmem).resolve_left List.not_mem_nil

/-! ## The answers to `T_Close` (20_memory.md R57; 93_implementation_defined.md I17) -/

/-- The machine with other answers to `T_Close` still to come. -/
def withCloses (closes : Answers Status) (s : State) : State :=
  { s with transport := { s.transport with closes := closes } }

/-- An outcome with its state, where there is one, replaced. -/
def onNext (f : State → State) : Host.Outcome State Fault Refusal → Host.Outcome State Fault Refusal
  | .next t => .next (f t)
  | .fault r => .fault r
  | .refused r => .refused r

section WithCloses

variable (closes : Answers Status)

theorem incTotal_withCloses (s : State) :
    incTotal (withCloses closes s) = withCloses closes (incTotal s) := by
  rw [incTotal, incTotal, apply_ite (withCloses closes)]
  rfl

theorem incGood_withCloses (s : State) :
    incGood (withCloses closes s) = withCloses closes (incGood s) := by
  rw [incGood, incGood, apply_ite (withCloses closes)]
  rfl

theorem dispatchFrame_withCloses (w : List Byte) (len : Nat) (s : State) :
    dispatchFrame w len (withCloses closes s) = withCloses closes (dispatchFrame w len s) := by
  rw [dispatchFrame, dispatchFrame, apply_ite (withCloses closes)]
  rfl

theorem validateFrame_withCloses (len : Nat) (s : State) :
    validateFrame len (withCloses closes s) = withCloses closes (validateFrame len s) := by
  simp only [validateFrame, incTotal_withCloses, incGood_withCloses, apply_ite (withCloses closes),
    ← dispatchFrame_withCloses]
  rfl

theorem assembleFrame_withCloses (b1 : Byte) (s : State) :
    assembleFrame b1 (withCloses closes s) = withCloses closes (assembleFrame b1 s) := by
  simp only [assembleFrame, validateFrame_withCloses, apply_ite (withCloses closes)]
  rfl

theorem parseHeader_withCloses (s : State) :
    parseHeader (withCloses closes s) = onNext (withCloses closes) (parseHeader s) := by
  have hbuf : (withCloses closes s).block.buf = s.block.buf := rfl
  rw [parseHeader, hbuf, parseHeader]
  cases decodeHeader s.block.buf with
  | ok c => cases c <;> exact congrArg _ (assembleFrame_withCloses closes _ s)
  | error e => cases e <;> rfl

/-- Stages 2 to 7 take no answer. -/
theorem parseBuffer_withCloses (s : State) :
    parseBuffer (withCloses closes s) = onNext (withCloses closes) (parseBuffer s) := by
  have hlen : bufLen (withCloses closes s) = bufLen s := rfl
  have hfind : bufFind (withCloses closes s) Config.sync = bufFind s Config.sync := rfl
  rw [parseBuffer, hlen, hfind, parseBuffer]
  split
  · rfl
  · cases bufFind s Config.sync with
    | none => rfl
    | some i => exact parseHeader_withCloses closes (bufDrop i s)

/-- The one operation that takes an answer to `T_Close`, and drops it. -/
theorem releaseLink_withCloses (s : State) :
    ∃ rest, releaseLink (withCloses closes s) = withCloses rest (releaseLink s) := by
  cases h : s.block.linkOpen
  · rw [releaseLink_free s h, releaseLink_free (withCloses closes s) h]
    exact ⟨closes, rfl⟩
  · rw [releaseLink_held s h, releaseLink_held (withCloses closes s) h]
    exact ⟨closes.rest, rfl⟩

theorem acquireLink_withCloses (s : State) :
    acquireLink (withCloses closes s) = withCloses closes (acquireLink s) := by
  have hanswer : (withCloses closes s).openAnswer = s.openAnswer := rfl
  rw [acquireLink, hanswer, acquireLink]
  cases s.openAnswer <;> rfl

theorem sendPayload_withCloses (payload : List Byte) (s : State) :
    sendPayload payload (withCloses closes s) = withCloses closes (sendPayload payload s) := by
  have hanswer : ∀ u : State, (withCloses closes u).writeAnswer = u.writeAnswer := fun _ => rfl
  have hissue : issueWrite payload (withCloses closes s) = withCloses closes (issueWrite payload s) := rfl
  simp only [sendPayload, sendChecksum, hissue, hanswer]
  cases s.writeAnswer
  · cases (issueWrite payload s).writeAnswer <;> rfl
  · rfl

theorem execSend_withCloses (payload : List Byte) (s : State) :
    execSend payload (withCloses closes s) = onNext (withCloses closes) (execSend payload s) := by
  cases h : s.block.linkOpen
  · rw [execSend_free payload h, execSend_free payload (s := withCloses closes s) h]
    rfl
  · rw [execSend_held payload h, execSend_held payload (s := withCloses closes s) h, sendPayload_withCloses]
    rfl

theorem recoverLink_withCloses (s : State) :
    ∃ rest, recoverLink (withCloses closes s) = onNext (withCloses rest) (recoverLink s) := by
  obtain ⟨rest, hrelease⟩ := releaseLink_withCloses closes (s.setRf true)
  have hrelease : releaseLink ((withCloses closes s).setRf true) = withCloses rest (releaseLink (s.setRf true)) :=
    hrelease
  have hanswer : ∀ u : State, (withCloses rest u).openAnswer = u.openAnswer := fun _ => rfl
  refine ⟨rest, ?_⟩
  simp only [recoverLink, hrelease, hanswer]
  cases (releaseLink (s.setRf true)).openAnswer
  · exact parseBuffer_withCloses rest ((issueOpen (releaseLink (s.setRf true))).setLink true)
  · rfl

theorem bufAppend_withCloses (bytes : List Byte) (s : State) :
    bufAppend bytes (withCloses closes s) = withCloses closes (bufAppend bytes s) := by
  rw [bufAppend, bufAppend, apply_ite (withCloses closes)]
  rfl

theorem ingest_withCloses (a : ReadAnswer) (s : State) :
    ∃ rest, ingest a (withCloses closes s) = onNext (withCloses rest) (ingest a s) := by
  simp only [ingest, bufAppend_withCloses, ← apply_ite (withCloses closes)]
  cases a.status with
  | ok | eof => exact ⟨closes, parseBuffer_withCloses closes _⟩
  | err => exact recoverLink_withCloses closes _

theorem pollStages_withCloses (s : State) :
    ∃ rest, pollStages (withCloses closes s) = onNext (withCloses rest) (pollStages s) := by
  have hblock : (withCloses closes s).block = s.block := rfl
  have hread : (withCloses closes s).readAnswer = s.readAnswer := rfl
  simp only [pollStages, hblock, hread]
  split_ifs
  · exact ingest_withCloses closes _ (issueRead s)
  · exact ⟨closes, rfl⟩
  · exact recoverLink_withCloses closes s
  · exact ⟨closes, rfl⟩

theorem exec_withCloses (i : Instr) (s : State) :
    ∃ rest, exec i (withCloses closes s) = onNext (withCloses rest) (exec i s) := by
  cases i with
  | openCmd port timeout =>
    obtain ⟨rest, hrelease⟩ := releaseLink_withCloses closes s
    refine ⟨rest, ?_⟩
    simp only [exec, execOpenCmd, hrelease]
    exact congrArg _ (acquireLink_withCloses rest (storeConfig port timeout (releaseLink s)))
  | closeCmd =>
    obtain ⟨rest, hrelease⟩ := releaseLink_withCloses closes s
    refine ⟨rest, ?_⟩
    simp only [exec, execCloseCmd, hrelease]
    rfl
  | poll => exact pollStages_withCloses closes (s.setRf false)
  | send payload => exact ⟨closes, execSend_withCloses closes payload s⟩
  | getstats | csumGen _ | csumCheck _ => exact ⟨closes, rfl⟩
  | hdrOptStd | hdrDataStd | hdrDataLen20 | hdrOptLen203 | hdrOptOther _ | hdrDataOther _ =>
    exact ⟨closes, congrArg _ (assembleFrame_withCloses closes _ s)⟩

theorem step_withCloses (s : State) :
    ∃ rest, step (withCloses closes s) = onNext (withCloses rest) (step s) := by
  match hhost : s.host with
  | [] =>
    rw [step_idle hhost, step_idle (s := withCloses closes s) hhost]
    exact ⟨closes, rfl⟩
  | .reset :: rest =>
    rw [step_reset hhost, step_reset (s := withCloses closes s) hhost]
    exact ⟨closes, rfl⟩
  | .command c :: rest =>
    match hdec : decodeCommand c with
    | .error _ =>
      rw [step_illegal hhost hdec, step_illegal (s := withCloses closes s) hhost hdec]
      exact ⟨closes, rfl⟩
    | .ok i =>
      rw [step_decoded hhost hdec, step_decoded (s := withCloses closes s) hhost hdec]
      exact exec_withCloses closes i (s.accept rest)

end WithCloses

/-- Settles O25: a step from the other answers is the step with the other answers that remain. -/
theorem closeAnswerIgnored : Obligations.CloseAnswerIgnored := by
  intro s t closes hstep
  obtain ⟨rest, heq⟩ := step_withCloses closes s
  rw [hstep] at heq
  exact ⟨rest, heq⟩

end Sys2Proof.Proofs
end

section
/-! Proofs for 30_encoding.md: the two decoders as relations between bits and instructions, what an illegal command does, the
rows of the header table, and the response that every instruction answers. -/

namespace Sys2Proof.Proofs

open Sys2Proof.Machine Sys2Proof.Laws

/-! ## The command port (30_encoding.md R60 to R63) -/

theorem opcField_toNat (w : Byte) : (opcField w).toNat = w.toNat % 8 := by
  simp [opcField, BitVec.extractLsb'_toNat]

theorem rsvField_eq_zero_iff (w : Byte) : rsvField w = 0#5 ↔ w.toNat / 8 = 0 := by
  have hw := w.isLt
  have hrsv : (rsvField w).toNat = w.toNat / 8 := by
    simp only [rsvField, BitVec.extractLsb'_toNat, Nat.shiftRight_eq_div_pow]
    omega
  rw [← hrsv, ← BitVec.toNat_inj]
  rfl

/-- A word whose reserved bits are zero is its opcode. -/
theorem word_eq_of_fields {w : Byte} {k : Nat} (hrsv : rsvField w = 0#5) (hopc : (opcField w).toNat = k) :
    w = BitVec.ofNat 8 k := by
  rw [rsvField_eq_zero_iff] at hrsv
  rw [opcField_toNat] at hopc
  apply BitVec.eq_of_toNat_eq
  rw [BitVec.toNat_ofNat]
  omega

theorem decodeBytes_eq_ok_iff {bytes : List Byte} {row : List Byte → Instr} {i : Instr} :
    decodeBytes bytes row = .ok i ↔ bytes.length ≤ Config.maxOperandLen ∧ row bytes = i := by
  unfold decodeBytes
  rw [← operandFits_iff]
  split <;> simp_all

/-- The opcode map with the operands that each opcode takes (30_encoding.md R61, R62): `i` is the instruction that stands on
the port as `c`. -/
inductive OnPort (c : Command) : Instr → Prop
  | openCmd (hword : c.word = 0x01#8) : OnPort c (.openCmd c.port c.timeout)
  | closeCmd (hword : c.word = 0x02#8) : OnPort c .closeCmd
  | poll (hword : c.word = 0x03#8) : OnPort c .poll
  | getstats (hword : c.word = 0x04#8) : OnPort c .getstats
  | send (hword : c.word = 0x05#8) (hlen : c.bytes.length ≤ Config.maxOperandLen) : OnPort c (.send c.bytes)
  | csumGen (hword : c.word = 0x06#8) (hlen : c.bytes.length ≤ Config.maxOperandLen) : OnPort c (.csumGen c.bytes)
  | csumCheck (hword : c.word = 0x07#8) (hlen : c.bytes.length ≤ Config.maxOperandLen) :
      OnPort c (.csumCheck c.bytes)

theorem onPort_of_decodeCommand {c : Command} {i : Instr} (h : decodeCommand c = .ok i) : OnPort c i := by
  unfold decodeCommand at h
  split at h
  · cases h
  · rename_i hrsv
    have hword {k : Nat} : (opcField c.word).toNat = k → c.word = BitVec.ofNat 8 k :=
      word_eq_of_fields (not_not.mp hrsv)
    split at h
    case h_1 hopc => cases h; exact .openCmd (hword hopc)
    case h_2 hopc => cases h; exact .closeCmd (hword hopc)
    case h_3 hopc => cases h; exact .poll (hword hopc)
    case h_4 hopc => cases h; exact .getstats (hword hopc)
    case h_5 hopc => obtain ⟨hlen, rfl⟩ := decodeBytes_eq_ok_iff.mp h; exact .send (hword hopc) hlen
    case h_6 hopc => obtain ⟨hlen, rfl⟩ := decodeBytes_eq_ok_iff.mp h; exact .csumGen (hword hopc) hlen
    case h_7 hopc => obtain ⟨hlen, rfl⟩ := decodeBytes_eq_ok_iff.mp h; exact .csumCheck (hword hopc) hlen
    case h_8 => cases h

theorem decodeCommand_of_onPort {c : Command} {i : Instr} (h : OnPort c i) : decodeCommand c = .ok i := by
  cases h with
  | openCmd hword | closeCmd hword | poll hword | getstats hword => simp [decodeCommand, rsvField, opcField, hword]
  | send hword hlen | csumGen hword hlen | csumCheck hword hlen =>
    simp [decodeCommand, rsvField, opcField, hword, decodeBytes_eq_ok_iff, hlen]

/-- The decoder of the command port is the opcode map. -/
theorem decodeCommand_eq_ok_iff {c : Command} {i : Instr} : decodeCommand c = .ok i ↔ OnPort c i :=
  ⟨onPort_of_decodeCommand, decodeCommand_of_onPort⟩

theorem not_illegal_of_onPort {c : Command} {i : Instr} (h : OnPort c i) : ¬ Illegal c := by
  cases h with
  | openCmd hword | closeCmd hword | poll hword | getstats hword => simp [Illegal, hword]
  | send hword hlen | csumGen hword hlen | csumCheck hword hlen => simp [Illegal, hword, hlen]

/-- A command with no ground of R63 against it has one of the seven words, and a bounded operand where it takes one. -/
theorem onPort_of_not_illegal {c : Command} (h : ¬ Illegal c) : ∃ i, OnPort c i := by
  simp only [Illegal, not_or, not_not, not_and, Nat.not_lt] at h
  obtain ⟨hopc, hrsv, hlen⟩ := h
  have hword {k : Nat} (hk : c.word.toNat = k) : c.word = BitVec.ofNat 8 k := by simp [← hk]
  obtain hk | hk | hk | hk | hk | hk | hk : c.word.toNat = 1 ∨ c.word.toNat = 2 ∨ c.word.toNat = 3 ∨
      c.word.toNat = 4 ∨ c.word.toNat = 5 ∨ c.word.toNat = 6 ∨ c.word.toNat = 7 := by omega
  · exact ⟨_, .openCmd (hword hk)⟩
  · exact ⟨_, .closeCmd (hword hk)⟩
  · exact ⟨_, .poll (hword hk)⟩
  · exact ⟨_, .getstats (hword hk)⟩
  · exact ⟨_, .send (hword hk) (hlen (by omega))⟩
  · exact ⟨_, .csumGen (hword hk) (hlen (by omega))⟩
  · exact ⟨_, .csumCheck (hword hk) (hlen (by omega))⟩

theorem illegal_iff (c : Command) : Illegal c ↔ ∀ i, decodeCommand c ≠ .ok i := by
  simp only [ne_eq, decodeCommand_eq_ok_iff]
  refine ⟨fun h i hi => not_illegal_of_onPort hi h, fun h => ?_⟩
  by_contra hlegal
  obtain ⟨i, hi⟩ := onPort_of_not_illegal hlegal
  exact h i hi

/-! ## The frame header (30_encoding.md R66, R70) -/

/-- The class that R70 gives a header with the bytes b1 and b3, the other two being right. -/
inductive ClassBytes : Byte → Byte → HeaderClass → Prop
  | optStd : ClassBytes 0x11#8 0x50#8 .optStd
  | dataStd : ClassBytes 0xC8#8 0x10#8 .dataStd
  | dataLen20 : ClassBytes 0x11#8 0x10#8 .dataLen20
  | optLen203 : ClassBytes 0xC8#8 0x50#8 .optLen203
  | optOther {b1 : Byte} (hother : otherLenByte b1 = true) : ClassBytes b1 0x50#8 (.optOther b1)
  | dataOther {b1 : Byte} (hother : otherLenByte b1 = true) : ClassBytes b1 0x10#8 (.dataOther b1)

theorem otherLenByte_iff (b1 : Byte) : otherLenByte b1 = true ↔ b1 ≠ 0x11#8 ∧ b1 ≠ 0xC8#8 := by
  simp [otherLenByte, Config.lenByteOpt, Config.lenByteData]

theorem classOf_other {b1 : Byte} (hother : otherLenByte b1 = true) (std20 std203 : HeaderClass)
    (other : Byte → HeaderClass) : classOf b1 std20 std203 other = other b1 := by
  obtain ⟨h20, h203⟩ := (otherLenByte_iff b1).mp hother
  exact (if_neg h20).trans (if_neg h203)

/-- A property of a header class holds of `classOf` if it holds in each of the three cases of b1. -/
theorem classOf_cases {motive : Byte → HeaderClass → Prop} {std20 std203 : HeaderClass} {other : Byte → HeaderClass}
    (h20 : motive 0x11#8 std20) (h203 : motive 0xC8#8 std203)
    (hother : ∀ {b1}, otherLenByte b1 = true → motive b1 (other b1)) (b1 : Byte) :
    motive b1 (classOf b1 std20 std203 other) := by
  by_cases h1 : b1 = 0x11#8
  · subst h1; exact h20
  by_cases h2 : b1 = 0xC8#8
  · subst h2; exact h203
  · have hb1 := (otherLenByte_iff b1).mpr ⟨h1, h2⟩
    rw [classOf_other hb1]
    exact hother hb1

theorem decodeHeader_short {bytes : List Byte} (h : bytes.length < 4) : decodeHeader bytes = .error .headerShort := by
  match bytes, h with
  | [], _ | [_], _ | [_, _], _ | [_, _, _], _ => rfl

theorem decodeHeader_of_classBytes {b1 b3 : Byte} {k : HeaderClass} (h : ClassBytes b1 b3 k) (rest : List Byte) :
    decodeHeader (0x71#8 :: b1 :: 0x01#8 :: b3 :: rest) = .ok k := by
  cases h with
  | optStd | dataStd | dataLen20 | optLen203 => rfl
  | optOther hother | dataOther hother => exact congrArg Except.ok (classOf_other hother _ _ _)

theorem classBytes_of_decodeHeader {b0 b1 b2 b3 : Byte} {rest : List Byte} {k : HeaderClass}
    (h : decodeHeader (b0 :: b1 :: b2 :: b3 :: rest) = .ok k) :
    b0 = 0x71#8 ∧ b2 = 0x01#8 ∧ ClassBytes b1 b3 k := by
  rw [decodeHeader] at h
  split at h
  · cases h
  rename_i h0
  split at h
  · cases h
  rename_i h2
  refine ⟨not_not.mp h0, not_not.mp h2, ?_⟩
  split at h
  · rename_i h3
    cases h
    rw [h3]
    exact classOf_cases (motive := (ClassBytes · 0x50#8)) .optStd .optLen203 .optOther b1
  split at h
  · rename_i h3
    cases h
    rw [h3]
    exact classOf_cases (motive := (ClassBytes · 0x10#8)) .dataLen20 .dataStd .dataOther b1
  · cases h

/-- The header test is R70's: the first four bytes, the sync byte and the subtype, and a class for b1 and b3. -/
theorem decodeHeader_eq_ok_iff {bytes : List Byte} {k : HeaderClass} :
    decodeHeader bytes = .ok k ↔
      ∃ b1 b3 rest, bytes = 0x71#8 :: b1 :: 0x01#8 :: b3 :: rest ∧ ClassBytes b1 b3 k := by
  constructor
  · intro h
    match bytes, h with
    | b0 :: b1 :: b2 :: b3 :: rest, h =>
      obtain ⟨rfl, rfl, hclass⟩ := classBytes_of_decodeHeader h
      exact ⟨b1, b3, rest, rfl, hclass⟩
  · rintro ⟨b1, b3, rest, rfl, hclass⟩
    exact decodeHeader_of_classBytes hclass rest

theorem ClassBytes.kindByte {b1 b3 : Byte} {k : HeaderClass} (h : ClassBytes b1 b3 k) : KindByte b3 := by
  cases h with
  | optStd | optLen203 | optOther => exact .inl rfl
  | dataStd | dataLen20 | dataOther => exact .inr rfl

theorem ClassBytes.rowLength_eq {b1 b3 : Byte} {k : HeaderClass} (h : ClassBytes b1 b3 k) :
    rowLength k.toInstr = some (b1.toNat + 3) := by
  cases h <;> rfl

theorem ClassBytes.wellFormed {b1 b3 : Byte} {k : HeaderClass} (h : ClassBytes b1 b3 k) :
    WellFormed k.toInstr = true := by
  cases h with
  | optStd | dataStd | dataLen20 | optLen203 => rfl
  | optOther hother | dataOther hother => exact hother

theorem ClassBytes.encode_eq {b1 b3 : Byte} {k : HeaderClass} (h : ClassBytes b1 b3 k) :
    encode k.toInstr = .header [0x71#8, b1, 0x01#8, b3] := by
  cases h <;> rfl

theorem decode_header_of_classBytes {b1 b3 : Byte} {k : HeaderClass} (h : ClassBytes b1 b3 k) :
    decode (.header [0x71#8, b1, 0x01#8, b3]) = .ok k.toInstr := by
  rw [decode, decodeHeader_of_classBytes h, Except.map]

/-! ## The obligations on the decoders -/

/-- Settles O9: the encoding of each of the seven commands stands on the port, that of each header row has the bytes of its
class. -/
theorem encodeDecodeRoundTrip : Obligations.EncodeDecodeRoundTrip := by
  intro i hwf
  cases i with
  | openCmd port timeout => exact decodeCommand_of_onPort (.openCmd rfl)
  | closeCmd => exact decodeCommand_of_onPort (.closeCmd rfl)
  | poll => exact decodeCommand_of_onPort (.poll rfl)
  | getstats => exact decodeCommand_of_onPort (.getstats rfl)
  | send payload => exact decodeCommand_of_onPort (.send rfl ((operandFits_iff _).mp hwf))
  | csumGen payload => exact decodeCommand_of_onPort (.csumGen rfl ((operandFits_iff _).mp hwf))
  | csumCheck frame => exact decodeCommand_of_onPort (.csumCheck rfl ((operandFits_iff _).mp hwf))
  | hdrOptStd => exact decode_header_of_classBytes .optStd
  | hdrDataStd => exact decode_header_of_classBytes .dataStd
  | hdrDataLen20 => exact decode_header_of_classBytes .dataLen20
  | hdrOptLen203 => exact decode_header_of_classBytes .optLen203
  | hdrOptOther b1 => exact decode_header_of_classBytes (.optOther hwf)
  | hdrDataOther b1 => exact decode_header_of_classBytes (.dataOther hwf)

/-- Settles O4: an illegal command is one that does not decode, and a step answers such a command at once. -/
theorem illegalCommandHasNoEffect : Obligations.IllegalCommandHasNoEffect := by
  refine ⟨fun s c rest hhost hillegal => ?_, rfl, illegal_iff⟩
  match hdec : decodeCommand c with
  | .ok i => exact absurd hdec ((illegal_iff c).mp hillegal i)
  | .error _ => exact step_illegal hhost hdec

/-- Settles O7, by the header test as R70 has it. -/
theorem headerValidityTest : Obligations.HeaderValidityTest := by
  refine ⟨fun b0 b1 b2 b3 rest => ⟨⟨?_, ?_⟩, ?_⟩, fun _ => decodeHeader_short⟩
  · rintro ⟨k, hk⟩
    obtain ⟨h0, h2, hclass⟩ := classBytes_of_decodeHeader hk
    exact ⟨h0, h2, hclass.kindByte⟩
  · rintro ⟨rfl, rfl, hkind⟩
    obtain ⟨k, hk, -⟩ := decodeHeader_valid b1 b3 rest hkind
    exact ⟨k, hk⟩
  · intro k hk
    obtain ⟨-, -, hclass⟩ := classBytes_of_decodeHeader hk
    exact hclass.rowLength_eq

theorem onPort_encodes {c : Command} {i : Instr} (h : OnPort c i) :
    WellFormed i = true ∧ ∃ c', encode i = .command c' ∧ c'.word = c.word ∧
      (∀ port timeout, i = .openCmd port timeout → c'.port = c.port ∧ c'.timeout = c.timeout) ∧
      ∀ bytes, i = .send bytes ∨ i = .csumGen bytes ∨ i = .csumCheck bytes → c'.bytes = c.bytes := by
  cases h with
  | openCmd hword | closeCmd hword | poll hword | getstats hword => exact ⟨rfl, _, rfl, hword.symm, by simp, by simp⟩
  | send hword hlen | csumGen hword hlen | csumCheck hword hlen =>
    exact ⟨(operandFits_iff _).mpr hlen, _, rfl, hword.symm, by simp, by simp⟩

/-- Settles O10: what stands on the port, and the bytes of a class, are what the encoder writes. -/
theorem decodedIsEncodable : Obligations.DecodedIsEncodable := by
  refine ⟨fun c i h => onPort_encodes (onPort_of_decodeCommand h), fun bytes k h => ?_⟩
  obtain ⟨b1, b3, rest, rfl, hclass⟩ := decodeHeader_eq_ok_iff.mp h
  exact ⟨hclass.wellFormed, hclass.encode_eq⟩

/-! ## The rows of the header table (30_encoding.md R71) -/

theorem headerWord_toNat (b0 b1 b2 b3 : Byte) : (headerWord b0 b1 b2 b3).toNat =
    b0.toNat * 2 ^ 24 + b1.toNat * 2 ^ 16 + b2.toNat * 2 ^ 8 + b3.toNat := by
  have happend {w : Nat} (x : BitVec w) (b : Byte) : (x ++ b).toNat = x.toNat * 2 ^ 8 + b.toNat := by
    rw [BitVec.toNat_append, ← Nat.shiftLeft_add_eq_or_of_lt b.isLt, Nat.shiftLeft_eq]
  rw [headerWord, happend, happend, happend]
  omega

/-- A header word has its four bytes as its digits. -/
theorem headerWord_inj {b0 b1 b2 b3 p0 p1 p2 p3 : Byte} :
    headerWord b0 b1 b2 b3 = headerWord p0 p1 p2 p3 ↔ b0 = p0 ∧ b1 = p1 ∧ b2 = p2 ∧ b3 = p3 := by
  simp only [← BitVec.toNat_inj, headerWord_toNat]
  omega

/-- The mask of a header word acts byte by byte. -/
theorem headerWord_and (b0 b1 b2 b3 m0 m1 m2 m3 : Byte) :
    headerWord b0 b1 b2 b3 &&& headerWord m0 m1 m2 m3 =
      headerWord (b0 &&& m0) (b1 &&& m1) (b2 &&& m2) (b3 &&& m3) := by
  have h01 : (b0 ++ b1) &&& (m0 ++ m1) = (b0 &&& m0) ++ (b1 &&& m1) := BitVec.and_append
  have h02 : (b0 ++ b1 ++ b2) &&& (m0 ++ m1 ++ m2) = (b0 &&& m0) ++ (b1 &&& m1) ++ (b2 &&& m2) :=
    BitVec.and_append.trans (congrArg (· ++ (b2 &&& m2)) h01)
  exact BitVec.and_append.trans (congrArg (· ++ (b3 &&& m3)) h02)

/-- The six rows with their patterns and masks written as four bytes. -/
theorem headerRows_eq (b1 : Byte) : headerRows b1 =
    [ (⟨headerWord 0x71#8 0x11#8 0x01#8 0x50#8, headerWord 0xFF#8 0xFF#8 0xFF#8 0xFF#8⟩, .optStd),
      (⟨headerWord 0x71#8 0xC8#8 0x01#8 0x10#8, headerWord 0xFF#8 0xFF#8 0xFF#8 0xFF#8⟩, .dataStd),
      (⟨headerWord 0x71#8 0x11#8 0x01#8 0x10#8, headerWord 0xFF#8 0xFF#8 0xFF#8 0xFF#8⟩, .dataLen20),
      (⟨headerWord 0x71#8 0xC8#8 0x01#8 0x50#8, headerWord 0xFF#8 0xFF#8 0xFF#8 0xFF#8⟩, .optLen203),
      (⟨headerWord 0x71#8 0x00#8 0x01#8 0x50#8, headerWord 0xFF#8 0x00#8 0xFF#8 0xFF#8⟩, .optOther b1),
      (⟨headerWord 0x71#8 0x00#8 0x01#8 0x10#8, headerWord 0xFF#8 0x00#8 0xFF#8 0xFF#8⟩, .dataOther b1) ] := rfl

/-- A row of four pattern bytes and four mask bytes is matched byte by byte. -/
theorem hits_iff (b0 b1 b2 b3 p0 p1 p2 p3 m0 m1 m2 m3 : Byte) :
    HeaderRow.hits ⟨headerWord p0 p1 p2 p3, headerWord m0 m1 m2 m3⟩ (headerWord b0 b1 b2 b3) = true ↔
      b0 &&& m0 = p0 ∧ b1 &&& m1 = p1 ∧ b2 &&& m2 = p2 ∧ b3 &&& m3 = p3 := by
  rw [HeaderRow.hits, beq_iff_eq, headerWord_and, headerWord_inj]

theorem and_fullMask (b : Byte) : b &&& 0xFF#8 = b := BitVec.and_allOnes

/-- Every row asks for the sync byte, the subtype and a kind byte, as the header test does. -/
theorem valid_of_hits {b0 b1 b2 b3 : Byte} :
    ∀ row ∈ headerRows b1, row.1.hits (headerWord b0 b1 b2 b3) = true → b0 = 0x71#8 ∧ b2 = 0x01#8 ∧ KindByte b3 := by
  simp only [headerRows_eq, List.forall_mem_cons, hits_iff, and_fullMask, KindByte]
  simp +contextual

theorem firstHeaderRow_of_classBytes {b1 b3 : Byte} {k : HeaderClass} (h : ClassBytes b1 b3 k) :
    firstHeaderRow 0x71#8 b1 0x01#8 b3 = some k := by
  cases h with
  | optStd | dataStd | dataLen20 | optLen203 => rfl
  | optOther hother | dataOther hother =>
    obtain ⟨h20, h203⟩ := (otherLenByte_iff b1).mp hother
    simp [firstHeaderRow, headerRows_eq, hits_iff, and_fullMask, h20, h203]

theorem firstHeaderRow_eq_none {b0 b1 b2 b3 : Byte} (h : ¬ (b0 = 0x71#8 ∧ b2 = 0x01#8 ∧ KindByte b3)) :
    firstHeaderRow b0 b1 b2 b3 = none := by
  rw [firstHeaderRow, Option.map_eq_none_iff, List.find?_eq_none]
  exact fun row hrow hhits => h (valid_of_hits row hrow hhits)

/-- Settles O8: a header that decodes has the bytes of a class, whose row is the first that matches; where the header test
fails no row matches. -/
theorem headerRowsFirstMatch : Obligations.HeaderRowsFirstMatch := by
  refine fun b0 b1 b2 b3 => ⟨headerWord_toNat b0 b1 b2 b3, fun rest => ?_⟩
  match hdec : decodeHeader (b0 :: b1 :: b2 :: b3 :: rest) with
  | .ok k =>
    obtain ⟨rfl, rfl, hclass⟩ := classBytes_of_decodeHeader hdec
    exact (firstHeaderRow_of_classBytes hclass).symm
  | .error _ =>
    refine (firstHeaderRow_eq_none ?_).symm
    rintro ⟨rfl, rfl, hkind⟩
    obtain ⟨k, hk, -⟩ := decodeHeader_valid b1 b3 rest hkind
    rw [hk] at hdec
    cases hdec

/-! ## POLL runs the row of a header (42_poll.md R109, R112) -/

theorem parseBuffer_behind {s : State} {g tail : List Byte} (hg : NoSync g) (hbuf : s.block.buf = g ++ 0x71#8 :: tail) :
    parseBuffer s = parseHeader (s.setBuf (0x71#8 :: tail)) := by
  have hfind : bufFind s Config.sync = some g.length := bufFind_after s 0x71#8 g tail hg hbuf
  simp [parseBuffer, bufLen, hfind, bufDrop, hbuf]

theorem runHeader_eq_exec (k : HeaderClass) (s : State) : runHeader k s = exec k.toInstr s := by
  cases k <;> rfl

theorem parseHeader_decoded {s : State} {k : HeaderClass} (h : decodeHeader s.block.buf = .ok k) :
    parseHeader s = exec k.toInstr s := by
  rw [parseHeader, h]
  exact runHeader_eq_exec k s

/-- Settles O38: the garbage is dropped, and the header decodes to the class whose row runs. -/
theorem pollRunsHeaderRow : Obligations.PollRunsHeaderRow := by
  intro s g b1 b3 tail hg hkind hbuf
  obtain ⟨k, hk, -⟩ := decodeHeader_valid b1 b3 tail hkind
  obtain ⟨-, -, hclass⟩ := classBytes_of_decodeHeader hk
  rw [parseBuffer_behind hg hbuf]
  exact ⟨k, hk, hclass.rowLength_eq, parseHeader_decoded hk⟩

/-! ## The response of every instruction (30_encoding.md R64) -/

/-- The machine shows a response with the fields of `i` and the `FAULT` of the block. -/
def Responds (i : Instr) (t : State) : Prop :=
  ∃ r, t.response = some r ∧ r.flt = t.block.fault ∧ ResponseShape i r

theorem respondCode_responds {i : Instr} (hshape : ∀ code flt, ResponseShape i { code := code, flt := flt })
    (code : ResponseCode) (s : State) : Responds i (respondCode code s) :=
  ⟨_, respondCode_response code s, rfl, hshape _ _⟩

/-- A condition that POLL does not raise answers its code and `FAULT` alone. -/
theorem raiseCondition_responds {i : Instr} (hshape : ∀ code flt, ResponseShape i { code := code, flt := flt })
    {c : Condition} (hc : conditionOfPoll c = false) (s : State) : Responds i (raiseCondition c s) := by
  refine ⟨_, raiseCondition_response c s, rfl, ?_⟩
  rw [hc]
  exact hshape _ _

theorem acquireLink_responds (port : PortId) (timeout : Timeout) (s : State) :
    Responds (.openCmd port timeout) (acquireLink s) := by
  rcases acquireLink_cases s with ⟨-, heq⟩ | ⟨-, heq⟩ <;> rw [heq]
  · exact respondCode_responds (by simp [ResponseShape]) _ _
  · exact raiseCondition_responds (by simp [ResponseShape]) rfl _

theorem sendPayload_responds (payload : List Byte) (s : State) : Responds (.send payload) (sendPayload payload s) := by
  have hshape : ∀ code flt, ResponseShape (.send payload) { code := code, flt := flt } := by simp [ResponseShape]
  unfold sendPayload sendChecksum
  split
  · split
    · exact respondCode_responds hshape _ _
    · exact raiseCondition_responds hshape rfl _
  · exact raiseCondition_responds hshape rfl _

theorem respondPoll_responds {code : ResponseCode} (hcode : code ≠ .pollDispatched) (s : State) :
    Responds .poll (respondPoll code s) :=
  ⟨_, respondPoll_response code s, rfl, by simp [ResponseShape, hcode]⟩

/-- A condition that POLL raises has the `rf` of the POLL and no datagram, as none has the code of one. -/
theorem raiseCondition_poll_responds {c : Condition} (hc : conditionOfPoll c = true) (s : State) :
    Responds .poll (raiseCondition c s) := by
  have hcode : conditionCode c ≠ .pollDispatched := by
    cases c with
    | transportWriteError stage => cases hc
    | _ => simp [conditionCode]
  exact ⟨_, raiseCondition_response c s, rfl, by simp [ResponseShape, hc, hcode]⟩

theorem respondDatagram_responds {w : List Byte} (hlen : w.length = 20 ∨ w.length = 203) (s : State) :
    Responds .poll (respondDatagram w s) :=
  ⟨_, respondDatagram_response w s, rfl, by simp [ResponseShape, hlen]⟩

theorem assembleFrame_responds (b1 : Byte) (s : State) : Responds .poll (assembleFrame b1 s) := by
  rcases assembleFrame_cases b1 s with ⟨-, h⟩ | ⟨-, -, h⟩ | ⟨hwhole, -, hlen, h⟩ | ⟨-, -, -, h⟩ <;> rw [h]
  · exact respondPoll_responds (by simp) _
  · exact raiseCondition_poll_responds rfl _
  · have hwindow : (s.block.buf.take (frameLength b1)).length = frameLength b1 := List.length_take_of_le hwhole
    exact respondDatagram_responds (by rwa [hwindow]) _
  · exact raiseCondition_poll_responds rfl _

theorem parseHeader_responds {s t : State} {tail : List Byte} (hbuf : s.block.buf = 0x71#8 :: tail)
    (h : parseHeader s = .next t) : Responds .poll t := by
  rcases parseHeader_cases s tail hbuf with ⟨-, heq⟩ | ⟨_, _, _, _, -, -, heq⟩ | ⟨b1, _, _, -, -, heq⟩ <;>
    rw [heq] at h <;> cases h
  · exact respondPoll_responds (by simp) _
  · exact raiseCondition_poll_responds rfl _
  · exact assembleFrame_responds b1 s

theorem parseBuffer_responds {s t : State} (h : parseBuffer s = .next t) : Responds .poll t := by
  rcases parseBuffer_cases s with ⟨-, heq⟩ | ⟨-, -, heq⟩ | ⟨g, tail, -, -, heq⟩ <;> rw [heq] at h
  · cases h
    exact respondPoll_responds (by simp) _
  · cases h
    exact respondPoll_responds (by simp) _
  · exact parseHeader_responds (setBuf_buf s _) h

theorem recoverLink_responds {s t : State} (h : recoverLink s = .next t) : Responds .poll t := by
  rcases recoverLink_cases s with ⟨-, heq⟩ | ⟨-, heq⟩ <;> rw [heq] at h
  · exact parseBuffer_responds h
  · cases h
    exact raiseCondition_poll_responds rfl _

theorem ingest_responds {a : ReadAnswer} {s t : State} (h : ingest a s = .next t) : Responds .poll t := by
  rcases ingest_cases a s with ⟨-, heq⟩ | ⟨-, heq⟩ <;> rw [heq] at h
  · exact parseBuffer_responds h
  · exact recoverLink_responds h

theorem execPoll_responds {s t : State} (h : execPoll s = .next t) : Responds .poll t := by
  rcases execPoll_cases s with ⟨-, heq⟩ | ⟨-, -, heq⟩ | ⟨-, -, -, heq⟩ | ⟨-, -, -, heq⟩ <;> rw [heq] at h
  · cases h
    exact raiseCondition_poll_responds rfl _
  · exact recoverLink_responds h
  · exact ingest_responds h
  · cases h

/-- Settles O55, instruction by instruction: OPEN, SEND and POLL by what their stages answer, a header row by stages 5 to
7 of POLL. -/
theorem everyCommandResponds : Obligations.EveryCommandResponds := by
  intro i s t hexec
  cases i with
  | openCmd port timeout => cases hexec; exact acquireLink_responds port timeout _
  | closeCmd => cases hexec; exact respondCode_responds (by simp [ResponseShape]) _ _
  | poll => exact execPoll_responds hexec
  | send payload =>
    cases hlink : s.block.linkOpen
    · cases (execSend_free payload hlink).symm.trans hexec
      exact raiseCondition_responds (by simp [ResponseShape]) rfl _
    · cases (execSend_held payload hlink).symm.trans hexec
      exact sendPayload_responds payload s
  | getstats | csumGen _ | csumCheck _ => cases hexec; exact ⟨_, rfl, rfl, by simp [ResponseShape]⟩
  | hdrOptStd | hdrDataStd | hdrDataLen20 | hdrOptLen203 | hdrOptOther _ | hdrDataOther _ =>
    cases hexec; exact assembleFrame_responds _ s

/-! ## Words, lengths and code numbers -/

/-- Settles O5: each of the seven words stands on the port with its operands, and `0x00` has the reserved opcode. -/
theorem opcodeMapDecodes : Obligations.OpcodeMapDecodes := by
  intro port timeout bytes hlen
  exact ⟨by simp [decodeCommand, rsvField, opcField], decodeCommand_of_onPort (.openCmd rfl),
    decodeCommand_of_onPort (.closeCmd rfl), decodeCommand_of_onPort (.poll rfl),
    decodeCommand_of_onPort (.getstats rfl), decodeCommand_of_onPort (.send rfl hlen),
    decodeCommand_of_onPort (.csumGen rfl hlen), decodeCommand_of_onPort (.csumCheck rfl hlen)⟩

/-- Settles O6, by running the decoders on the closed words. -/
theorem headerWordsDecode : Obligations.HeaderWordsDecode := by
  unfold Obligations.HeaderWordsDecode
  decide

/-- Settles O11: the length is `b1 + 3`, and b1 is at most 255. -/
theorem candidateLengthExact : Obligations.CandidateLengthExact := by
  intro b1
  have hlen : (candidateLength b1).toNat = b1.toNat + 3 := frameLength_eq b1
  have hb1 := b1.isLt
  omega

/-- The response codes in the order of their numbers. -/
def responseCodes : List ResponseCode :=
  [.ok, .pollEmpty, .pollNoSync, .pollHeaderWait, .pollHeaderInvalid, .pollLengthWait, .pollChecksumFailed,
    .pollDispatched, .pollLengthUnrecognized, .pollReopenFailed, .openError, .writeErrorPayload, .writeErrorChecksum,
    .illegalCommand, .unconfigured]

/-- The number of a code is its place in the list, so that the number gives the code back. -/
theorem responseCodes_codeNumber (c : ResponseCode) : responseCodes[(codeNumber c).toNat]? = some c := by
  cases c <;> rfl

/-- Settles O12: a number is the place of its code in a list of fifteen. -/
theorem responseCodesDistinct : Obligations.ResponseCodesDistinct := by
  refine ⟨rfl, rfl, rfl, rfl, rfl, rfl, rfl, rfl, rfl, rfl, rfl, rfl, rfl, rfl, rfl, fun c d hnumber => ?_,
    fun c hmax => ?_⟩
  · have hcode := responseCodes_codeNumber c
    rw [hnumber, responseCodes_codeNumber] at hcode
    exact (Option.some.inj hcode).symm
  · have hcode := responseCodes_codeNumber c
    rw [hmax] at hcode
    cases hcode

end Sys2Proof.Proofs
end

section
/-! Proofs for 40_checksum.md: the two functions of the Checksum Module over plain numbers, what a changed sequence
sums to, and the corrupted frame that POLL finds. -/

namespace Sys2Proof.Proofs

open Sys2Proof.Machine Sys2Proof.Laws

/-! ## The two functions over plain numbers (40_checksum.md R80, R81) -/

/-- `CsumGen` in the words of R80: the sum modulo 256, its bits inverted, plus one. -/
theorem csumGen_eq_ofNat (payload : List Byte) :
    csumGen payload = BitVec.ofNat 8 (((byteSum payload % 256) ^^^ 255) + 1) := by
  rw [← sum8_toNat, BitVec.ofNat_add, BitVec.ofNat_xor, BitVec.ofNat_toNat, BitVec.setWidth_eq]
  rfl

theorem csumValid_eq_decide (frame : List Byte) : csumValid frame = decide (byteSum frame % 256 = 0) := by
  rw [Bool.eq_iff_iff, csumValid_iff, decide_eq_true_iff]

/-! ## The two commands -/

theorem decodeBytes_eq (bytes : List Byte) (row : List Byte → Instr) :
    decodeBytes bytes row =
      if bytes.length ≤ Config.maxOperandLen then .ok (row bytes) else .error .operandTooLong := by
  simp only [decodeBytes, operandFits_iff]

/-- Settles O16: the word `0x06` decodes its payload, and the checksum that CSUM_GEN answers is R80's number. -/
theorem csumGenResponds : Obligations.CsumGenResponds := by
  intro payload port timeout s
  constructor
  · simp [decodeCommand, rsvField, opcField, decodeBytes_eq]
  · rw [← csumGen_eq_ofNat]
    rfl

/-- Settles O17: the word `0x07` decodes its frame, and CSUM_CHECK answers whether the sum is 0 modulo 256. -/
theorem csumCheckResponds : Obligations.CsumCheckResponds := by
  intro frame port timeout s
  constructor
  · simp [decodeCommand, rsvField, opcField, decodeBytes_eq]
  · rw [← csumValid_eq_decide]
    rfl

/-! ## The send checksum completes its payload (40_checksum.md R83) -/

theorem csumValid_eq_true_iff_sum8 (frame : List Byte) : csumValid frame = true ↔ sum8 frame = 0#8 := beq_iff_eq

theorem csumValid_append_csumGen (payload : List Byte) : csumValid (payload ++ [csumGen payload]) = true := by
  rw [csumValid_eq_true_iff_sum8]
  calc sum8 (payload ++ [csumGen payload])
      = sum8 payload + (csumGen payload + 0#8) := sum8_append _ _
    _ = sum8 payload + -sum8 payload := by rw [BitVec.add_zero, csumGen_eq_neg]
    _ = 0#8 := add_neg_cancel _

theorem csumGen_toNat (payload : List Byte) : (csumGen payload).toNat = (256 - byteSum payload % 256) % 256 := by
  rw [csumGen_eq_neg, BitVec.toNat_neg, sum8_toNat]

/-- Settles O18: the send checksum is the negated sum of the payload. -/
theorem checksumRoundTrip : Obligations.ChecksumRoundTrip := fun payload =>
  ⟨csumValid_append_csumGen payload, csumGen_toNat payload⟩

/-! ## What a change does to the sum (40_checksum.md R84) -/

/-- A byte adds to the sum of the others, wherever it stands. -/
theorem sum8_append_cons (pre post : List Byte) (b : Byte) : sum8 (pre ++ b :: post) = b + sum8 (pre ++ post) := by
  rw [sum8_append, sum8_append, sum8]
  exact add_left_comm _ _ _

/-- Two bytes add to the sum of the others, wherever they stand. -/
theorem sum8_two_bytes (pre mid post : List Byte) (x y : Byte) :
    sum8 (pre ++ x :: (mid ++ y :: post)) = (x + y) + sum8 (pre ++ (mid ++ post)) := by
  rw [sum8_append_cons, ← List.append_assoc, sum8_append_cons, List.append_assoc, BitVec.add_assoc]

/-- One changed byte of a valid sequence makes it invalid: the other bytes sum to the negative of one byte only. -/
theorem csumValid_changed_byte {pre post : List Byte} {b b' : Byte} (hvalid : csumValid (pre ++ b :: post) = true)
    (hne : b ≠ b') : csumValid (pre ++ b' :: post) = false := by
  rw [Bool.eq_false_iff]
  intro hvalid'
  rw [csumValid_eq_true_iff_sum8, sum8_append_cons] at hvalid hvalid'
  exact hne (add_right_cancel (hvalid.trans hvalid'.symm))

theorem csumValid_perm {f g : List Byte} (hperm : f.Perm g) : csumValid g = csumValid f := by
  have hsum : byteSum f = byteSum g := (hperm.map BitVec.toNat).sum_eq
  rw [csumValid_eq_decide, csumValid_eq_decide, hsum]

theorem csumValid_cancelling_changes {pre mid post : List Byte} {x y x' y' : Byte}
    (hvalid : csumValid (pre ++ x :: (mid ++ y :: post)) = true)
    (hcancel : (x.toNat + y.toNat) % 256 = (x'.toNat + y'.toNat) % 256) :
    csumValid (pre ++ x' :: (mid ++ y' :: post)) = true := by
  have hsum : x + y = x' + y' := BitVec.eq_of_toNat_eq (by simpa only [BitVec.toNat_add] using hcancel)
  rw [csumValid_eq_true_iff_sum8, sum8_two_bytes] at hvalid ⊢
  rwa [← hsum]

/-- Settles O19, law by law. -/
theorem checksumErrorDetection : Obligations.ChecksumErrorDetection :=
  ⟨fun _ _ _ _ => csumValid_changed_byte, fun _ _ => csumValid_perm,
    fun _ _ _ _ _ _ _ => csumValid_cancelling_changes⟩

/-! ## A corrupted frame at the head of the buffer (42_poll.md R115, R126) -/

theorem csumValid_set {f : List Byte} {i : Nat} {b : Byte} (hvalid : csumValid f = true) (hi : i < f.length)
    (hne : f[i]? ≠ some b) : csumValid (f.set i b) = false := by
  have hbyte : f[i] ≠ b := by simpa [hi] using hne
  have hsplit : f.take i ++ f[i] :: f.drop (i + 1) = f := by simp
  rw [List.set_eq_take_append_cons_drop, if_pos hi]
  exact csumValid_changed_byte (by rwa [hsplit]) hbyte

theorem flagUp_counterMax (fault : BitVec 2) : flagUp counterMax fault = fault ||| 0b10#2 := rfl

theorem flagUp_of_ne {x : Counter} (h : x ≠ counterMax) (fault : BitVec 2) : flagUp x fault = fault :=
  if_neg fun hmax => h (BitVec.eq_of_toNat_eq hmax)

/-- The whole state after `IncTotal()` (42_poll.md R122). -/
theorem incTotal_eq (s : State) :
    incTotal s = { s with block := { s.block with
      totalReads := countUp s.block.totalReads
      fault := flagUp s.block.totalReads s.block.fault } } := by
  rcases incTotal_cases s with ⟨hmax, heq⟩ | ⟨hmax, heq⟩
  · rw [heq, hmax, countUp_counterMax, flagUp_counterMax, ← hmax]
    rfl
  · rw [heq, countUp_of_ne hmax, flagUp_of_ne hmax]

/-- A whole frame whose bytes do not sum to zero is counted, costs the sync byte and raises its condition. -/
theorem assembleFrame_checksum_fails {b1 : Byte} {s : State} (hwhole : frameLength b1 ≤ bufLen s)
    (hbad : csumValid (s.block.buf.take (frameLength b1)) = false) :
    assembleFrame b1 s = raiseCondition .checksumInvalid (bufDrop 1 (incTotal s)) := by
  rcases assembleFrame_cases b1 s with ⟨hshort, -⟩ | ⟨-, -, heq⟩ | ⟨-, hgood, -⟩ | ⟨-, hgood, -⟩
  · exact absurd hwhole (Nat.not_le.mpr hshort)
  · exact heq
  all_goals exact absurd (hgood.symm.trans hbad) (by decide)

/-- With a valid header at the head of the buffer, POLL goes on to stages 5 to 7. -/
theorem parseBuffer_valid_header {s : State} {b1 b3 : Byte} {tail : List Byte} (hkind : KindByte b3)
    (hbuf : s.block.buf = 0x71#8 :: b1 :: 0x01#8 :: b3 :: tail) : parseBuffer s = .next (assembleFrame b1 s) := by
  obtain ⟨k, hdec, hrun⟩ := decodeHeader_valid b1 b3 tail hkind
  have hself : s.setBuf (0x71#8 :: b1 :: 0x01#8 :: b3 :: tail) = s := by rw [← hbuf]; rfl
  rw [parseBuffer_behind (g := []) (by simp [NoSync]) hbuf, hself, parseHeader, hbuf, hdec]
  exact hrun s

/-- Settles O51: the header is still valid and gives the length of the frame, and the changed byte makes its
sum nonzero. -/
theorem corruptionDetected : Obligations.CorruptionDetected := by
  intro s f tail i b hframe h4 hi hne hbuf
  obtain ⟨b1, b3, rest, hf, hkind, hlen, hsum⟩ := hframe
  have hlen' : (f.set i b).length = frameLength b1 := by rw [List.length_set, hlen, frameLength_eq]
  have hbad : csumValid (f.set i b) = false := csumValid_set ((csumValid_iff f).mpr hsum) hi hne
  have hheader : s.block.buf = 0x71#8 :: b1 :: 0x01#8 :: b3 :: (rest.set (i - 4) b ++ tail) := by
    obtain ⟨j, rfl⟩ := Nat.exists_eq_add_of_le' h4
    rw [hbuf, hf]
    rfl
  have hwhole : frameLength b1 ≤ bufLen s := by
    rw [← hlen', bufLen, hbuf, List.length_append]
    exact Nat.le_add_right _ _
  have hwindow : s.block.buf.take (frameLength b1) = f.set i b := by rw [hbuf, List.take_left' hlen']
  have hdrop : s.block.buf.drop 1 = (f.set i b).drop 1 ++ tail := by
    rw [hbuf, List.drop_append_of_le_length (by rw [List.length_set]; omega)]
  rw [parseBuffer_valid_header hkind hheader, assembleFrame_checksum_fails hwhole (by rwa [hwindow]), incTotal_eq,
    ← hdrop]
  rfl

end Sys2Proof.Proofs
end

section
/-! Proofs for 41_connection.md: OPEN and CLOSE as whole next states, each the release of the transport and what comes
behind it. -/

namespace Sys2Proof.Proofs

open Sys2Proof.Machine Sys2Proof.Laws

/-! ## The release of the transport and the attempt to acquire it -/

/-- The whole state after the release, for a held transport and for a free one (41_connection.md R90, R91). -/
theorem releaseLink_eq (s : State) :
    releaseLink s = { s with
      block := { s.block with linkOpen := false }
      transport := { s.transport with
        closes := if s.block.linkOpen = true then s.transport.closes.rest else s.transport.closes }
      requests := s.requests ++ if s.block.linkOpen = true then [Request.close] else [] } := by
  cases h : s.block.linkOpen
  · have hblock := releaseLink_block s
    rw [releaseLink_free s h] at hblock ⊢
    simp [← hblock]
  · rw [releaseLink_held s h]
    rfl

theorem acquireLink_ok {s : State} (hok : s.openAnswer = .ok) :
    acquireLink s = respondCode .ok (bufClear ((issueOpen s).setLink true)) := by simp [acquireLink, hok]

theorem acquireLink_err {s : State} (herr : s.openAnswer = .err) :
    acquireLink s = raiseCondition .transportOpenError (issueOpen s) := by simp [acquireLink, herr]

/-! ## The two commands -/

theorem exec_openCmd (port : PortId) (timeout : Timeout) (s : State) :
    exec (.openCmd port timeout) s = .next (acquireLink (storeConfig port timeout (releaseLink s))) := rfl

theorem exec_closeCmd (s : State) : exec .closeCmd s = .next (respondCode .ok (releaseLink s)) := rfl

/-- Settles O20: the release, then the configuration, then the one attempt by its answer, which the release and the
configuration leave as it was. -/
theorem openStoresAndAcquires : Obligations.OpenStoresAndAcquires := by
  intro port timeout bytes s
  have hanswer : (storeConfig port timeout (releaseLink s)).openAnswer = s.openAnswer := openAnswer_releaseLink s
  refine ⟨decodeCommand_of_onPort (.openCmd rfl), fun hok => ?_, fun herr => ?_⟩
  · rw [exec_openCmd, acquireLink_ok (hanswer.trans hok), releaseLink_eq]
    rfl
  · rw [exec_openCmd, acquireLink_err (hanswer.trans herr), releaseLink_eq]
    rfl

/-- Settles O21, by whether the transport is held: the first CLOSE leaves it free and answers OK, so that the second one
only writes the same response again. -/
theorem closeReleases : Obligations.CloseReleases := by
  refine ⟨fun port timeout bytes => decodeCommand_of_onPort (.closeCmd rfl), fun s hlink => ?_, fun s hlink => ?_,
    fun s t u ht hu => ?_⟩
  · rw [exec_closeCmd, releaseLink_held s hlink]
    rfl
  · rw [exec_closeCmd, releaseLink_free s hlink]
    rfl
  · obtain rfl : respondCode .ok (releaseLink s) = t := Host.Outcome.next.inj ht
    have hfree : (respondCode .ok (releaseLink s)).block.linkOpen = false := by simp
    rw [exec_closeCmd, releaseLink_free _ hfree] at hu
    exact (Host.Outcome.next.inj hu).symm

end Sys2Proof.Proofs
end

section
/-! Proofs for 42_poll.md: the counters, the frame-header rows (stages 5 to 7), and stages 0 and 1 with the recovery from
a read fault, each as a whole next state. -/

namespace Sys2Proof.Proofs

open Sys2Proof.Machine Sys2Proof.Laws

/-! ## The counters and the append, as whole next states -/

/-- The whole state after `IncGood()` (42_poll.md R122). -/
theorem incGood_eq (s : State) :
    incGood s = { s with block := { s.block with
      goodReads := countUp s.block.goodReads
      fault := flagUp s.block.goodReads s.block.fault } } := by
  rcases incGood_cases s with ⟨hmax, heq⟩ | ⟨hmax, heq⟩
  · rw [heq, hmax, countUp_counterMax, flagUp_counterMax, ← hmax]
    rfl
  · rw [heq, countUp_of_ne hmax, flagUp_of_ne hmax]

/-- Settles O15, by the whole states after the two increments. -/
theorem countersSaturate : Obligations.CountersSaturate := fun s =>
  ⟨incTotal_eq s, incGood_eq s, incGood_incTotal_keeps_order⟩

/-- The whole state after `BufAppend(bytes)` (20_memory.md R47). -/
theorem bufAppend_eq (bytes : List Byte) (s : State) :
    bufAppend bytes s = { s with block := appended bytes s.block } := by
  rcases bufAppend_cases bytes s with ⟨hle, heq⟩ | ⟨hgt, heq⟩
  · rw [heq, appended, if_pos (show s.block.buf.length + bytes.length ≤ Config.bufCap from hle)]
    rfl
  · rw [heq, appended, if_neg (Nat.not_le.mpr (show Config.bufCap < s.block.buf.length + bytes.length from hgt))]
    rfl

theorem appended_of_fits {bytes : List Byte} {b : Block} (hfits : b.buf.length + bytes.length ≤ Config.bufCap) :
    appended bytes b = { b with buf := b.buf ++ bytes } := if_pos hfits

/-- What an append writes is `BUF` and `FAULT`: everything that a recovery reads or keeps is as it was. -/
@[simp] theorem appended_frame (bytes : List Byte) (b : Block) :
    (appended bytes b).totalReads = b.totalReads ∧ (appended bytes b).goodReads = b.goodReads ∧
      (appended bytes b).linkOpen = b.linkOpen ∧ (appended bytes b).cfgPort = b.cfgPort ∧
      (appended bytes b).cfgTimeout = b.cfgTimeout := by
  unfold appended
  split <;> exact ⟨rfl, rfl, rfl, rfl, rfl⟩

@[simp] theorem faulted_frame (s : State) :
    (faulted s).totalReads = s.block.totalReads ∧ (faulted s).goodReads = s.block.goodReads ∧
      (faulted s).linkOpen = s.block.linkOpen ∧ (faulted s).cfgPort = s.block.cfgPort ∧
      (faulted s).cfgTimeout = s.block.cfgTimeout := by
  unfold faulted
  split
  · exact appended_frame _ _
  · exact ⟨rfl, rfl, rfl, rfl, rfl⟩

/-! ## Stages 5 to 7: the frame-header rows (42_poll.md R113 to R118) -/

theorem assembleFrame_waits {b1 : Byte} {s : State} (hshort : s.block.buf.length < frameLength b1) :
    assembleFrame b1 s = respondPoll .pollLengthWait s := if_pos hshort

theorem assembleFrame_dispatches {b1 : Byte} {s : State} (hwhole : frameLength b1 ≤ s.block.buf.length)
    (hgood : csumValid (s.block.buf.take (frameLength b1)) = true) (hlen : frameLength b1 = 20 ∨ frameLength b1 = 203) :
    assembleFrame b1 s = respondDatagram (s.block.buf.take (frameLength b1))
      (bufDrop (frameLength b1) (incGood (incTotal s))) := by
  rcases assembleFrame_cases b1 s with ⟨hshort, -⟩ | ⟨-, hbad, -⟩ | ⟨-, -, -, heq⟩ | ⟨-, -, hother, -⟩
  · exact absurd hwhole (Nat.not_le.mpr hshort)
  · exact absurd (hgood.symm.trans hbad) (by decide)
  · exact heq
  · exact absurd hlen hother

theorem assembleFrame_unrecognized {b1 : Byte} {s : State} (hwhole : frameLength b1 ≤ s.block.buf.length)
    (hgood : csumValid (s.block.buf.take (frameLength b1)) = true)
    (hother : ¬ (frameLength b1 = 20 ∨ frameLength b1 = 203)) :
    assembleFrame b1 s = raiseCondition .unrecognizedLength (bufDrop (frameLength b1) (incGood (incTotal s))) := by
  rcases assembleFrame_cases b1 s with ⟨hshort, -⟩ | ⟨-, hbad, -⟩ | ⟨-, -, hlen, -⟩ | ⟨-, -, -, heq⟩
  · exact absurd hwhole (Nat.not_le.mpr hshort)
  · exact absurd (hgood.symm.trans hbad) (by decide)
  · exact absurd hlen hother
  · exact heq

/-- A frame-header row is stages 5 to 7 on the b1 that gives its length. -/
theorem exec_headerRow {i : Instr} {len : Nat} (hrow : rowLength i = some len) :
    ∃ b1, frameLength b1 = len ∧ ∀ s, exec i s = .next (assembleFrame b1 s) := by
  cases i with
  | hdrOptStd | hdrDataLen20 => exact ⟨0x11#8, Option.some.inj hrow, fun _ => rfl⟩
  | hdrDataStd | hdrOptLen203 => exact ⟨0xC8#8, Option.some.inj hrow, fun _ => rfl⟩
  | hdrOptOther b1 | hdrDataOther b1 =>
    exact ⟨b1, (frameLength_eq b1).trans (Option.some.inj hrow), fun _ => rfl⟩
  | openCmd | closeCmd | poll | getstats | send | csumGen | csumCheck => cases hrow

/-- Settles O39: stage 5 waits. -/
theorem headerRowWaits : Obligations.HeaderRowWaits := by
  intro i len s hrow hshort
  obtain ⟨b1, rfl, hexec⟩ := exec_headerRow hrow
  rw [hexec, assembleFrame_waits hshort]
  rfl

/-- Settles O40: stage 6 fails, after the attempt is counted. -/
theorem headerRowChecksumFails : Obligations.HeaderRowChecksumFails := by
  intro i len s hrow hwhole hsum
  obtain ⟨b1, rfl, hexec⟩ := exec_headerRow hrow
  have hbad : csumValid (s.block.buf.take (frameLength b1)) = false :=
    Bool.eq_false_iff.mpr fun hgood => hsum ((csumValid_iff _).mp hgood)
  rw [hexec, assembleFrame_checksum_fails hwhole hbad, incTotal_eq]
  rfl

/-- Settles O41: stage 6 passes, after both counters, and stage 7 returns the frame. -/
theorem headerRowDispatches : Obligations.HeaderRowDispatches := by
  intro i len s hrow hwhole hsum hlen
  obtain ⟨b1, rfl, hexec⟩ := exec_headerRow hrow
  rw [hexec, assembleFrame_dispatches hwhole ((csumValid_iff _).mpr hsum) hlen, incGood_eq, incTotal_eq]
  rfl

/-- Settles O42: stage 6 passes, after both counters, and stage 7 returns nothing. -/
theorem headerRowUnrecognized : Obligations.HeaderRowUnrecognized := by
  intro i len s hrow hwhole hsum h20 h203
  obtain ⟨b1, rfl, hexec⟩ := exec_headerRow hrow
  rw [hexec, assembleFrame_unrecognized hwhole ((csumValid_iff _).mpr hsum) (not_or.mpr ⟨h20, h203⟩), incGood_eq,
    incTotal_eq]
  rfl

/-- Settles O59, by the four things that stages 5 to 7 can do. -/
theorem headerRowFrame : Obligations.HeaderRowFrame := by
  intro i len s t hrow h
  obtain ⟨b1, rfl, hexec⟩ := exec_headerRow hrow
  obtain rfl : assembleFrame b1 s = t := Host.Outcome.next.inj ((hexec s).symm.trans h)
  rcases assembleFrame_cases b1 s with ⟨-, heq⟩ | ⟨-, -, heq⟩ | ⟨-, -, -, heq⟩ | ⟨-, -, -, heq⟩ <;> simp [heq]

/-! ## Stages 0 and 1 (42_poll.md R101 to R106) -/

/-- Settles O28, by stage 0. -/
theorem pollUnconfigured : Obligations.PollUnconfigured := fun _ hcfg => execPoll_unconfigured hcfg

/-- A POLL that reads `c` with no fault appends it and goes on to stage 2 (42_poll.md R102). -/
theorem execPoll_reads {s : State} {c : List Byte} (hreads : ReadsChunk s c) :
    execPoll s = parseBuffer { s with
      block := appended c s.block
      transport := { s.transport with reads := s.transport.reads.rest }
      requests := s.requests ++ [.read 1024]
      rf := false } := by
  obtain ⟨hcfg, hlink, hlen, hanswer⟩ := hreads
  obtain ⟨hbytes, hstatus⟩ : s.readAnswer.bytes = c ∧ s.readAnswer.status ≠ .err := by
    rcases hanswer with h | h <;> simp [h]
  have hduty : KeepsReadDuty s := by rwa [KeepsReadDuty, hbytes]
  rcases execPoll_cases s with ⟨hcfg', -⟩ | ⟨-, hlink', -⟩ | ⟨-, -, -, heq⟩ | ⟨-, -, hlong, -⟩
  · simp [hcfg] at hcfg'
  · simp [hlink] at hlink'
  · rcases ingest_cases s.readAnswer (issueRead (s.setRf false)) with ⟨-, hingest⟩ | ⟨herr, -⟩
    · rw [heq, hingest, bufAppend_eq, hbytes]
      rfl
    · exact absurd herr hstatus
  · exact absurd hduty hlong

/-- Settles O29: the read is appended, and stage 2 follows. -/
theorem pollReadsChunk : Obligations.PollReadsChunk := fun _ _ hreads => execPoll_reads hreads

/-- The state in which a POLL with a read fault starts its recovery: a held transport has been read (42_poll.md R102,
R103). -/
def beforeRecovery (s : State) : State :=
  { s with
    block := faulted s
    transport := { s.transport with
      reads := if s.block.linkOpen = true then s.transport.reads.rest else s.transport.reads }
    requests := s.requests ++ if s.block.linkOpen = true then [.read 1024] else []
    rf := false }

theorem faulted_free {s : State} (hlink : s.block.linkOpen = false) : faulted s = s.block := by
  simp [faulted, hlink]

theorem faulted_held {s : State} (hlink : s.block.linkOpen = true) :
    faulted s = if Config.faultAppend = true then appended s.readAnswer.bytes s.block else s.block := by
  simp [faulted, hlink]

/-- Every read fault leads into the recovery (42_poll.md R104). -/
theorem execPoll_faults {s : State} (hfault : ReadFaults s) : execPoll s = recoverLink (beforeRecovery s) := by
  obtain ⟨hcfg, hcause⟩ := hfault
  rcases execPoll_cases s with ⟨hcfg', -⟩ | ⟨-, hlink, heq⟩ | ⟨-, hlink, -, heq⟩ | ⟨-, hlink, hlong, -⟩
  · simp [hcfg] at hcfg'
  · rw [heq, beforeRecovery, faulted_free hlink, hlink]
    simp [State.setRf]
  · obtain ⟨-, herr⟩ := hcause.resolve_left (by simp [hlink])
    rcases ingest_cases s.readAnswer (issueRead (s.setRf false)) with ⟨hok, -⟩ | ⟨-, hingest⟩
    · exact absurd herr hok
    · rw [heq, hingest, beforeRecovery, faulted_held hlink, hlink, bufAppend_eq]
      split <;> rfl
  · obtain ⟨hduty, -⟩ := hcause.resolve_left (by simp [hlink])
    exact absurd hduty hlong

/-- The state behind the reopen's `T_Open`, by its answer `held` (42_poll.md R104 to R106). -/
def reopened (s : State) (held : Bool) : State :=
  { s with
    block := { faulted s with linkOpen := held }
    transport := { s.transport with
      opens := s.transport.opens.rest
      reads := if s.block.linkOpen = true then s.transport.reads.rest else s.transport.reads
      closes := if s.block.linkOpen = true then s.transport.closes.rest else s.transport.closes }
    requests := s.requests ++ (if s.block.linkOpen = true then [.read 1024, .close] else []) ++
      [storedOpen s.block]
    rf := true }

theorem issueOpen_recovery (s : State) (held : Bool) :
    (issueOpen (releaseLink ((beforeRecovery s).setRf true))).setLink held = reopened s held := by
  obtain ⟨-, -, hlink, hport, htimeout⟩ := faulted_frame s
  rw [releaseLink_eq]
  simp only [beforeRecovery, reopened, State.setRf, State.setLink, issueOpen, State.issue, storedOpen, hlink, hport,
    htimeout]
  cases s.block.linkOpen <;> simp

/-- A read fault ends in stage 2 with the transport held again, or in the failed reopen (42_poll.md R105, R106). -/
theorem execPoll_reopens {s : State} (hfault : ReadFaults s) :
    (s.openAnswer = .ok ∧ execPoll s = parseBuffer (reopened s true)) ∨
      (s.openAnswer = .err ∧ execPoll s = .next (raiseCondition .transportReadFault (reopened s false))) := by
  rw [execPoll_faults hfault, ← issueOpen_recovery, ← issueOpen_recovery]
  rcases recoverLink_cases (beforeRecovery s) with ⟨hans, heq⟩ | ⟨hans, heq⟩
  · exact .inl ⟨hans, heq⟩
  · rw [heq, releaseLink_eq]
    exact .inr ⟨hans, rfl⟩

/-- Settles O30: the recovery, by the one answer to its reopen. -/
theorem pollRecovers : Obligations.PollRecovers := by
  intro s hfault
  rcases execPoll_reopens hfault with ⟨hans, heq⟩ | ⟨hans, heq⟩
  · exact ⟨fun herr => absurd (hans.symm.trans herr) (by simp), fun _ => heq⟩
  · exact ⟨fun _ => heq, fun hok => absurd (hans.symm.trans hok) (by simp)⟩

end Sys2Proof.Proofs
end

section
/-! Proofs for 42_poll.md: stages 2 to 4 as whole next states, and all that stages 2 to 7 can do. -/

namespace Sys2Proof.Proofs

open Sys2Proof.Machine Sys2Proof.Laws

/-! ## Stages 2 to 4 (42_poll.md R107 to R111) -/

theorem noSync_nil : NoSync [] := by simp [NoSync]

theorem parseBuffer_empty {s : State} (h : s.block.buf = []) : parseBuffer s = .next (respondPoll .pollEmpty s) := by
  simp [parseBuffer, bufLen, h]

theorem parseBuffer_noSync {s : State} (hne : s.block.buf ≠ []) (hno : NoSync s.block.buf) :
    parseBuffer s = .next (respondPoll .pollNoSync s) := by
  have hlen : bufLen s ≠ 0 := fun h => hne (List.length_eq_zero_iff.mp h)
  have hfind : bufFind s Config.sync = none := bufFind_none s 0x71#8 hno
  simp [parseBuffer, hlen, hfind]

theorem parseHeader_short {s : State} (h : s.block.buf.length < 4) :
    parseHeader s = .next (respondPoll .pollHeaderWait s) := by
  rw [parseHeader, decodeHeader_short h]

theorem parseHeader_invalid {s : State} {b1 b2 b3 : Byte} {tail : List Byte}
    (hbuf : s.block.buf = 0x71#8 :: b1 :: b2 :: b3 :: tail) (hinvalid : ¬ (b2 = 0x01#8 ∧ KindByte b3)) :
    parseHeader s = .next (raiseCondition .headerInvalid (bufDrop 1 s)) := by
  obtain ⟨e, hne, hdec⟩ := decodeHeader_invalid b1 b2 b3 tail hinvalid
  rw [parseHeader, hbuf, hdec]
  cases e with
  | headerShort => exact absurd rfl hne
  | _ => rfl

theorem parseHeader_valid {s : State} {b1 b3 : Byte} {tail : List Byte} (hkind : KindByte b3)
    (hbuf : s.block.buf = 0x71#8 :: b1 :: 0x01#8 :: b3 :: tail) : parseHeader s = .next (assembleFrame b1 s) := by
  obtain ⟨k, hdec, hrun⟩ := decodeHeader_valid b1 b3 tail hkind
  rw [parseHeader, hbuf, hdec]
  exact hrun s

/-- Settles O33: stage 2 stops. -/
theorem pollEmptyStops : Obligations.PollEmptyStops := fun _ h => parseBuffer_empty h

/-- Settles O34: stage 2 finds no sync byte. -/
theorem pollNoSyncKeepsBuffer : Obligations.PollNoSyncKeepsBuffer := fun _ hne hno => parseBuffer_noSync hne hno

/-- Settles O35: stage 2 finds the first sync byte. -/
theorem pollDropsGarbage : Obligations.PollDropsGarbage := fun _ _ _ hg hbuf => parseBuffer_behind hg hbuf

/-- Settles O36: the garbage is dropped, and too few bytes are no header. -/
theorem pollHeaderWait : Obligations.PollHeaderWait := by
  intro s g tail hg hbuf hshort
  have hshort' : (s.setBuf (0x71#8 :: tail)).block.buf.length < 4 := Nat.succ_lt_succ hshort
  rw [parseBuffer_behind hg hbuf, parseHeader_short hshort']
  rfl

/-! ## All that stages 2 to 7 can do -/

/-- What a buffer waits for, and the code that says so (42_poll.md R107, R108, R110, R113, R121). -/
inductive Waits : ResponseCode → List Byte → Prop
  | empty : Waits .pollEmpty []
  | noSync {buf : List Byte} (hne : buf ≠ []) (hno : NoSync buf) : Waits .pollNoSync buf
  | header {tail : List Byte} (hshort : tail.length < 3) : Waits .pollHeaderWait (0x71#8 :: tail)
  | length {b1 b3 : Byte} {rest : List Byte} (hkind : KindByte b3)
      (hshort : (0x71#8 :: b1 :: 0x01#8 :: b3 :: rest).length < frameLength b1) :
      Waits .pollLengthWait (0x71#8 :: b1 :: 0x01#8 :: b3 :: rest)

/-- All that stages 2 to 7 can do: wait with what is buffered, or with what stands behind the garbage `g`; or consume,
behind `g`, the sync byte or a whole frame (42_poll.md R107 to R118). -/
inductive Parsed (s : State) : State → Prop
  | idle {code : ResponseCode} (hno : NoSync s.block.buf) (hwaits : Waits code s.block.buf) :
      Parsed s (respondPoll code s)
  | waits {g tail : List Byte} {code : ResponseCode} (hg : NoSync g) (hbuf : s.block.buf = g ++ 0x71#8 :: tail)
      (hwaits : Waits code (0x71#8 :: tail)) : Parsed s (respondPoll code (s.setBuf (0x71#8 :: tail)))
  | headerInvalid {g tail : List Byte} (hg : NoSync g) (hbuf : s.block.buf = g ++ 0x71#8 :: tail) :
      Parsed s (raiseCondition .headerInvalid (s.setBuf tail))
  | checksumFailed {g tail : List Byte} (hg : NoSync g) (hbuf : s.block.buf = g ++ 0x71#8 :: tail) :
      Parsed s (raiseCondition .checksumInvalid ((incTotal s).setBuf tail))
  | dispatched {g f tail : List Byte} (hg : NoSync g) (hframe : Datagram f) (hbuf : s.block.buf = g ++ (f ++ tail)) :
      Parsed s (respondDatagram f ((incGood (incTotal s)).setBuf tail))
  | unrecognized {g f tail : List Byte} (hg : NoSync g) (hframe : WholeFrame f) (hother : ¬ Datagram f)
      (hbuf : s.block.buf = g ++ (f ++ tail)) :
      Parsed s (raiseCondition .unrecognizedLength ((incGood (incTotal s)).setBuf tail))

theorem bufDrop_incTotal_setBuf (n : Nat) (buf : List Byte) (s : State) :
    bufDrop n (incTotal (s.setBuf buf)) = (incTotal s).setBuf (buf.drop n) := by
  rw [incTotal_eq, incTotal_eq]
  rfl

theorem bufDrop_incGood_setBuf (n : Nat) (buf : List Byte) (s : State) :
    bufDrop n (incGood (incTotal (s.setBuf buf))) = (incGood (incTotal s)).setBuf (buf.drop n) := by
  rw [incTotal_eq, incTotal_eq, incGood_eq, incGood_eq]
  rfl

/-- A window of the length its header gives that sums to zero is a whole frame. The window of length 3 ends before b3,
and never sums to zero (42_poll.md R125). -/
theorem wholeFrame_of_window {b1 b3 : Byte} {rest : List Byte} (hkind : KindByte b3)
    (hwhole : frameLength b1 ≤ (0x71#8 :: b1 :: 0x01#8 :: b3 :: rest).length)
    (hgood : csumValid ((0x71#8 :: b1 :: 0x01#8 :: b3 :: rest).take (frameLength b1)) = true) :
    WholeFrame ((0x71#8 :: b1 :: 0x01#8 :: b3 :: rest).take (frameLength b1)) := by
  have hsum := (csumValid_iff _).mp hgood
  have hlen := List.length_take_of_le hwhole
  by_cases h0 : b1 = 0x00#8
  · subst h0
    exact absurd hgood (by simp [show frameLength 0x00#8 = 3 from rfl, csumValid, sum8])
  · obtain ⟨n, hn⟩ : ∃ n, frameLength b1 = n + 4 := by
      have hpos : b1.toNat ≠ 0 := fun h => h0 (BitVec.eq_of_toNat_eq h)
      exact ⟨b1.toNat - 1, by rw [frameLength_eq]; omega⟩
    exact ⟨b1, b3, rest.take n, by rw [hn]; rfl, hkind, by rw [hlen, frameLength_eq], hsum⟩

theorem datagram_window_iff {b1 b3 : Byte} {rest : List Byte} (hkind : KindByte b3)
    (hwhole : frameLength b1 ≤ (0x71#8 :: b1 :: 0x01#8 :: b3 :: rest).length)
    (hgood : csumValid ((0x71#8 :: b1 :: 0x01#8 :: b3 :: rest).take (frameLength b1)) = true) :
    Datagram ((0x71#8 :: b1 :: 0x01#8 :: b3 :: rest).take (frameLength b1)) ↔
      frameLength b1 = 20 ∨ frameLength b1 = 203 := by
  rw [Datagram, List.length_take_of_le hwhole]
  exact and_iff_right (wholeFrame_of_window hkind hwhole hgood)

/-- Stages 5 to 7 with a valid header at the head of the buffer, behind the garbage `g`. -/
theorem assembleFrame_parsed {s : State} {g rest : List Byte} {b1 b3 : Byte} (hg : NoSync g) (hkind : KindByte b3)
    (hbuf : s.block.buf = g ++ 0x71#8 :: b1 :: 0x01#8 :: b3 :: rest) :
    Parsed s (assembleFrame b1 (s.setBuf (0x71#8 :: b1 :: 0x01#8 :: b3 :: rest))) := by
  have hsplit : s.block.buf = g ++ ((0x71#8 :: b1 :: 0x01#8 :: b3 :: rest).take (frameLength b1) ++
      (0x71#8 :: b1 :: 0x01#8 :: b3 :: rest).drop (frameLength b1)) := by rw [List.take_append_drop, hbuf]
  rcases assembleFrame_cases b1 (s.setBuf (0x71#8 :: b1 :: 0x01#8 :: b3 :: rest)) with
    ⟨hshort, heq⟩ | ⟨-, -, heq⟩ | ⟨hwhole, hgood, hlen, heq⟩ | ⟨hwhole, hgood, hother, heq⟩ <;> rw [heq]
  · exact .waits hg hbuf (.length hkind hshort)
  · rw [bufDrop_incTotal_setBuf]
    exact .checksumFailed hg hbuf
  · rw [bufDrop_incGood_setBuf]
    exact .dispatched hg ((datagram_window_iff hkind hwhole hgood).mpr hlen) hsplit
  · rw [bufDrop_incGood_setBuf]
    exact .unrecognized hg (wholeFrame_of_window hkind hwhole hgood)
      (mt (datagram_window_iff hkind hwhole hgood).mp hother) hsplit

theorem parseHeader_parsed {s : State} {g tail : List Byte} (hg : NoSync g)
    (hbuf : s.block.buf = g ++ 0x71#8 :: tail) :
    ∃ t, parseHeader (s.setBuf (0x71#8 :: tail)) = .next t ∧ Parsed s t := by
  rcases parseHeader_cases (s.setBuf (0x71#8 :: tail)) tail rfl with
    ⟨hshort, heq⟩ | ⟨b1, b2, b3, rest, -, -, heq⟩ | ⟨b1, b3, rest, rfl, hkind, heq⟩
  · exact ⟨_, heq, .waits hg hbuf (.header hshort)⟩
  · exact ⟨_, heq, .headerInvalid hg hbuf⟩
  · exact ⟨_, heq, assembleFrame_parsed hg hkind hbuf⟩

theorem parseBuffer_parsed (s : State) : ∃ t, parseBuffer s = .next t ∧ Parsed s t := by
  rcases parseBuffer_cases s with ⟨hempty, heq⟩ | ⟨hne, hno, heq⟩ | ⟨g, tail, hbuf, hg, heq⟩
  · have hwaits : Waits .pollEmpty s.block.buf := hempty ▸ .empty
    exact ⟨_, heq, .idle (hempty ▸ noSync_nil) hwaits⟩
  · exact ⟨_, heq, .idle hno (.noSync hne hno)⟩
  · rw [heq]
    exact parseHeader_parsed hg hbuf

theorem parsed_of_parseBuffer {s t : State} (h : parseBuffer s = .next t) : Parsed s t := by
  obtain ⟨t', ht', hparsed⟩ := parseBuffer_parsed s
  obtain rfl : t' = t := Host.Outcome.next.inj (ht'.symm.trans h)
  exact hparsed

/-- Settles O37: an invalid header costs the sync byte, and a valid one goes on to stages 5 to 7, none of whose ends is
`POLL_HEADER_INVALID`. -/
theorem pollInvalidHeader : Obligations.PollInvalidHeader := by
  intro s g b1 b2 b3 tail hg hbuf
  rw [parseBuffer_behind hg hbuf]
  refine ⟨fun hinvalid => by rw [parseHeader_invalid rfl hinvalid]; rfl, ?_⟩
  rintro ⟨rfl, hkind⟩
  rw [parseHeader_valid hkind rfl]
  rcases assembleFrame_cases b1 (s.setBuf (0x71#8 :: b1 :: 0x01#8 :: b3 :: tail)) with
    ⟨-, heq⟩ | ⟨-, -, heq⟩ | ⟨-, -, -, heq⟩ | ⟨-, -, -, heq⟩ <;>
    rw [heq] <;> exact ⟨_, _, rfl, rfl, by simp [conditionCode]⟩

theorem Waits.code_mem {code : ResponseCode} {buf : List Byte} (h : Waits code buf) : code ∈ waitCodes := by
  cases h <;> decide

theorem Waits.code_of_noSync {code : ResponseCode} {buf : List Byte} (h : Waits code buf) (hno : NoSync buf) :
    code = .pollEmpty ∨ code = .pollNoSync := by
  cases h with
  | empty => exact .inl rfl
  | noSync => exact .inr rfl
  | header | length => exact absurd rfl (hno 0x71#8 List.mem_cons_self)

theorem Waits.code_of_sync {code : ResponseCode} {tail : List Byte} (h : Waits code (0x71#8 :: tail)) :
    code = .pollHeaderWait ∨ code = .pollLengthWait := by
  cases h with
  | noSync _ hno => exact absurd rfl (hno 0x71#8 List.mem_cons_self)
  | header => exact .inl rfl
  | length => exact .inr rfl

/-- Settles O45, by all that stages 2 to 7 can do. -/
theorem pollConsumesByCode : Obligations.PollConsumesByCode := by
  intro s t h
  cases parsed_of_parseBuffer h with
  | idle hno hwaits => rcases hwaits.code_of_noSync hno with rfl | rfl <;> exact ⟨_, rfl, rfl⟩
  | waits hg hbuf hwaits => rcases hwaits.code_of_sync with rfl | rfl <;> exact ⟨_, rfl, _, hg, hbuf, rfl⟩
  | headerInvalid hg hbuf | checksumFailed hg hbuf => exact ⟨_, rfl, _, hg, hbuf⟩
  | dispatched hg hframe hbuf => exact ⟨_, rfl, _, _, hg, hframe, hbuf, rfl⟩
  | unrecognized hg hframe hother hbuf => exact ⟨_, rfl, _, _, hg, hframe, hother, hbuf⟩

end Sys2Proof.Proofs
end

section
/-! Proofs for 42_poll.md: POLL as a whole, from all that its stages can do; a datagram behind garbage; the shortest
candidate lengths. -/

namespace Sys2Proof.Proofs

open Sys2Proof.Machine Sys2Proof.Laws

/-! ## What every end of stages 2 to 7 has in common -/

theorem conditionCode_mem_pollCodes {c : Condition} (hc : conditionOfPoll c = true) : conditionCode c ∈ pollCodes := by
  cases c with
  | transportOpenError | transportWriteError | illegalCommand => cases hc
  | transportReadFault | headerInvalid | checksumInvalid | unrecognizedLength | unconfigured =>
    simp [conditionCode, pollCodes]

theorem conditionCode_notMem_waitCodes (c : Condition) : conditionCode c ∉ waitCodes := by
  cases c with
  | transportWriteError stage => cases stage <;> simp [conditionCode, waitCodes]
  | _ => simp [conditionCode, waitCodes]

theorem Waits.code_mem_pollCodes {code : ResponseCode} {buf : List Byte} (h : Waits code buf) : code ∈ pollCodes := by
  have hsub : waitCodes ⊆ pollCodes := by decide
  exact hsub h.code_mem

theorem Parsed.response {s t : State} (h : Parsed s t) :
    ∃ r, t.response = some r ∧ r.rf = some s.rf ∧ r.code ∈ pollCodes := by
  cases h with
  | idle _ hwaits | waits _ _ hwaits => exact ⟨_, rfl, rfl, hwaits.code_mem_pollCodes⟩
  | headerInvalid => exact ⟨_, rfl, rfl, conditionCode_mem_pollCodes (c := .headerInvalid) rfl⟩
  | checksumFailed =>
    exact ⟨_, rfl, by simp [conditionOfPoll], conditionCode_mem_pollCodes (c := .checksumInvalid) rfl⟩
  | dispatched => exact ⟨_, rfl, by simp, by simp [pollCodes]⟩
  | unrecognized =>
    exact ⟨_, rfl, by simp [conditionOfPoll], conditionCode_mem_pollCodes (c := .unrecognizedLength) rfl⟩

/-- Stages 2 to 7 count at most one read and at most one good read (42_poll.md R119). -/
theorem Parsed.counts {s t : State} (h : Parsed s t) :
    (t.block.totalReads = s.block.totalReads ∨ t.block.totalReads = countUp s.block.totalReads) ∧
      (t.block.goodReads = s.block.goodReads ∨ t.block.goodReads = countUp s.block.goodReads) := by
  cases h with
  | idle | waits | headerInvalid => exact ⟨.inl rfl, .inl rfl⟩
  | checksumFailed | dispatched | unrecognized => simp

theorem consumed_shorter {buf g f tail : List Byte} (hbuf : buf = g ++ (f ++ tail)) (hpos : 0 < f.length) :
    tail.length < buf.length := by
  rw [hbuf, List.length_append, List.length_append]
  omega

theorem wholeFrame_length_pos {f : List Byte} (hframe : WholeFrame f) : 0 < f.length := by
  obtain ⟨b1, -, -, -, -, hlen, -⟩ := hframe
  omega

/-- Stages 2 to 7 end with a wait for what stands in the buffer, or have consumed a byte (42_poll.md R120, R121). -/
theorem Parsed.waits_or_shrinks {s t : State} (h : Parsed s t) :
    ∃ r, t.response = some r ∧ (Waits r.code t.block.buf ∨
      (r.code ∉ waitCodes ∧ t.block.buf.length < s.block.buf.length)) := by
  cases h with
  | idle _ hwaits => exact ⟨_, rfl, .inl hwaits⟩
  | waits _ _ hwaits => exact ⟨_, rfl, .inl hwaits⟩
  | headerInvalid _ hbuf =>
    exact ⟨_, rfl, .inr ⟨conditionCode_notMem_waitCodes .headerInvalid, consumed_shorter (f := [_]) hbuf Nat.one_pos⟩⟩
  | checksumFailed _ hbuf =>
    exact ⟨_, rfl, .inr ⟨conditionCode_notMem_waitCodes .checksumInvalid, consumed_shorter (f := [_]) hbuf Nat.one_pos⟩⟩
  | dispatched _ hframe hbuf =>
    exact ⟨_, rfl, .inr ⟨by simp [waitCodes], consumed_shorter hbuf (wholeFrame_length_pos hframe.1)⟩⟩
  | unrecognized _ hframe _ hbuf =>
    exact ⟨_, rfl, .inr ⟨conditionCode_notMem_waitCodes .unrecognizedLength,
      consumed_shorter hbuf (wholeFrame_length_pos hframe)⟩⟩

/-- What stands at the head of a buffer that POLL waits with (42_poll.md R129). -/
theorem Waits.head {code : ResponseCode} {buf : List Byte} (h : Waits code buf) :
    (code = .pollHeaderWait ∨ code = .pollLengthWait → buf.head? = some 0x71#8) ∧
      (code = .pollNoSync → buf ≠ [] ∧ NoSync buf) ∧ (code = .pollEmpty → buf = []) := by
  cases h with
  | empty => simp
  | noSync hne hno => simp [hne, hno]
  | header | length => simp

/-! ## All that a POLL can do -/

/-- A POLL is not configured, reads with no fault, meets a read fault, or is refused its read (42_poll.md R101 to
R104). -/
theorem poll_cases (s : State) :
    s.block.cfgValid = false ∨ (∃ c, ReadsChunk s c) ∨ ReadFaults s ∨ execPoll s = .refused .readBeyondChunkMax := by
  rcases execPoll_cases s with ⟨hcfg, -⟩ | ⟨hcfg, hlink, -⟩ | ⟨hcfg, hlink, hduty, -⟩ | ⟨-, -, -, heq⟩
  · exact .inl hcfg
  · exact .inr (.inr (.inl ⟨hcfg, .inl hlink⟩))
  · match hans : s.readAnswer with
    | ⟨c, .ok⟩ => exact .inr (.inl ⟨c, hcfg, hlink, by simpa [KeepsReadDuty, hans] using hduty, .inl hans⟩)
    | ⟨c, .eof⟩ => exact .inr (.inl ⟨c, hcfg, hlink, by simpa [KeepsReadDuty, hans] using hduty, .inr hans⟩)
    | ⟨c, .err⟩ => exact .inr (.inr (.inl ⟨hcfg, .inr ⟨hduty, by rw [hans]⟩⟩))
  · exact .inr (.inr (.inr heq))

/-- The counters of `t` are those of `s`. -/
def SameCounters (s t : State) : Prop :=
  t.block.totalReads = s.block.totalReads ∧ t.block.goodReads = s.block.goodReads

/-- How a POLL that starts at `s` ends: before stage 2, or in stages 2 to 7; stages 0 and 1 count nothing (42_poll.md
R119). -/
inductive PollEnds (s : State) : State → Prop
  | early {c : Condition} {u : State} (hc : conditionOfPoll c = true) (hu : SameCounters s u) :
      PollEnds s (raiseCondition c u)
  | parsed {u t : State} (hu : SameCounters s u) (h : Parsed u t) : PollEnds s t

theorem sameCounters_reopened (s : State) (held : Bool) : SameCounters s (reopened s held) := by
  simp [SameCounters, reopened]

theorem execPoll_ends {s t : State} (h : execPoll s = .next t) : PollEnds s t := by
  rcases poll_cases s with hcfg | ⟨c, hreads⟩ | hfault | hrefused
  · cases (execPoll_unconfigured hcfg).symm.trans h
    exact .early rfl ⟨rfl, rfl⟩
  · rw [execPoll_reads hreads] at h
    exact .parsed (by simp [SameCounters]) (parsed_of_parseBuffer h)
  · rcases execPoll_reopens hfault with ⟨-, heq⟩ | ⟨-, heq⟩ <;> rw [heq] at h
    · exact .parsed (sameCounters_reopened s true) (parsed_of_parseBuffer h)
    · cases h
      exact .early rfl (sameCounters_reopened s false)
  · cases hrefused.symm.trans h

theorem PollEnds.code_mem {s t : State} (h : PollEnds s t) : ∃ r, t.response = some r ∧ r.code ∈ pollCodes := by
  cases h with
  | early hc => exact ⟨_, raiseCondition_response _ _, conditionCode_mem_pollCodes hc⟩
  | parsed _ h =>
    obtain ⟨r, hr, -, hcode⟩ := h.response
    exact ⟨r, hr, hcode⟩

theorem PollEnds.counts {s t : State} (h : PollEnds s t) :
    (t.block.totalReads = s.block.totalReads ∨ t.block.totalReads = countUp s.block.totalReads) ∧
      (t.block.goodReads = s.block.goodReads ∨ t.block.goodReads = countUp s.block.goodReads) := by
  cases h with
  | early _ hu =>
    obtain ⟨htotal, hgood⟩ := hu
    exact ⟨.inl htotal, .inl hgood⟩
  | parsed hu h =>
    obtain ⟨htotal, hgood⟩ := hu
    rw [← htotal, ← hgood]
    exact h.counts

theorem PollEnds.head {s t : State} {r : Response} (h : PollEnds s t) (hr : t.response = some r) :
    Waits r.code t.block.buf ∨ r.code ∉ waitCodes := by
  cases h with
  | early =>
    cases hr
    exact .inr (conditionCode_notMem_waitCodes _)
  | parsed _ h =>
    obtain ⟨r', hr', hends⟩ := h.waits_or_shrinks
    obtain rfl : r' = r := Option.some.inj (hr'.symm.trans hr)
    exact hends.imp_right And.left

theorem exec_poll (s : State) : exec .poll s = execPoll s := rfl

/-- A counter that has been counted up at most once has grown by at most one. -/
theorem grows_by_at_most_one {x y : Counter} (h : y = x ∨ y = countUp x) :
    x.toNat ≤ y.toNat ∧ y.toNat ≤ x.toNat + 1 := by
  have hlt := x.isLt
  rcases h with rfl | rfl
  · omega
  · rw [countUp_toNat]
    omega

/-- Settles O44, by how a POLL ends and the shape of its response. -/
theorem pollEndsWithOneCode : Obligations.PollEndsWithOneCode := by
  intro s hduty
  obtain ⟨t, ht⟩ := execPoll_answers hduty
  have hends := execPoll_ends ht
  obtain ⟨r, hr, hcode⟩ := hends.code_mem
  obtain ⟨r', hr', -, -, hdg, -⟩ := execPoll_responds ht
  obtain rfl : r' = r := Option.some.inj (hr'.symm.trans hr)
  obtain ⟨htotal, hgood⟩ := hends.counts
  obtain ⟨htotal_ge, htotal_le⟩ := grows_by_at_most_one htotal
  obtain ⟨hgood_ge, hgood_le⟩ := grows_by_at_most_one hgood
  exact ⟨t, r', ht, hr, hcode, hdg, htotal_ge, htotal_le, hgood_ge, hgood_le⟩

/-- Settles O46: a POLL that ends with a waiting code waits with what stands in its buffer. -/
theorem pollHeadInvariants : Obligations.PollHeadInvariants := by
  intro s t r h hr
  rcases (execPoll_ends h).head hr with hwaits | hother
  · exact hwaits.head
  · refine ⟨?_, ?_, ?_⟩
    · rintro (hcode | hcode) <;> exact absurd (by rw [hcode]; decide) hother
    · exact fun hcode => absurd (by rw [hcode]; decide) hother
    · exact fun hcode => absurd (by rw [hcode]; decide) hother

/-- Settles O31: the recovery issues the one `T_Open`, and stages 2 to 7 issue nothing and answer the `rf` it has
set. -/
theorem readFaultNeverEscapes : Obligations.ReadFaultNeverEscapes := by
  intro s hfault hnone
  obtain ⟨t, r, ht, hr, hrf, hrequests⟩ : ∃ t r, execPoll s = .next t ∧ t.response = some r ∧ r.rf = some true ∧
      t.requests = (reopened s true).requests := by
    rcases execPoll_reopens hfault with ⟨-, heq⟩ | ⟨-, heq⟩
    · obtain ⟨t, ht, hparsed⟩ := parseBuffer_parsed (reopened s true)
      obtain ⟨r, hr, hrf, -⟩ := hparsed.response
      exact ⟨t, r, heq.trans ht, hr, hrf, (parseBuffer_parseFrame ht).requests⟩
    · exact ⟨_, _, heq, rfl, rfl, rfl⟩
  refine ⟨t, r, ht, hr, hrf, ?_⟩
  rw [hrequests, reopened, hnone]
  cases s.block.linkOpen <;> rfl

/-! ## A whole frame behind garbage (42_poll.md R109, R117) -/

theorem parseBuffer_datagram {s : State} {g f tail : List Byte} (hg : NoSync g) (hframe : Datagram f)
    (hbuf : s.block.buf = g ++ (f ++ tail)) :
    parseBuffer s = .next (respondDatagram f ((incGood (incTotal s)).setBuf tail)) := by
  obtain ⟨⟨b1, b3, rest, hf, hkind, hlen, hsum⟩, hsize⟩ := hframe
  have hlen' : f.length = frameLength b1 := hlen.trans (frameLength_eq b1).symm
  have hhead : f ++ tail = 0x71#8 :: b1 :: 0x01#8 :: b3 :: (rest ++ tail) := by rw [hf]; rfl
  have hwindow : (s.setBuf (f ++ tail)).block.buf.take (frameLength b1) = f := List.take_left' hlen'
  have hbehind : parseBuffer s = parseHeader (s.setBuf (f ++ tail)) := by
    rw [hhead] at hbuf ⊢
    exact parseBuffer_behind hg hbuf
  rw [hbehind, parseHeader_valid hkind hhead, assembleFrame_dispatches, hwindow, bufDrop_incGood_setBuf,
    List.drop_left' hlen']
  · rw [setBuf_buf, List.length_append, hlen']
    exact Nat.le_add_right _ _
  · rw [hwindow, csumValid_iff, hsum]
  · rwa [← hlen']

/-- Settles O43: the read is appended, and the frame behind the garbage is returned. -/
theorem pollReturnsDatagram : Obligations.PollReturnsDatagram := by
  intro s c g f tail hreads hbuf hfits hg hframe
  rw [exec_poll, execPoll_reads hreads, appended_of_fits hfits, parseBuffer_datagram hg hframe hbuf, incGood_eq,
    incTotal_eq]
  rfl

/-! ## The candidate lengths 3, 4 and 5 (42_poll.md R125) -/

/-- A frame of length 3 or 4 never sums to zero, whichever its kind. -/
theorem window_of_three_or_four_fails {b1 b3 : Byte} (hb1 : b1 = 0x00#8 ∨ b1 = 0x01#8) (hkind : KindByte b3)
    (tail : List Byte) : csumValid ((0x71#8 :: b1 :: 0x01#8 :: b3 :: tail).take (frameLength b1)) = false := by
  rcases hb1 with rfl | rfl
  · simp [show frameLength 0x00#8 = 3 from rfl, csumValid, sum8]
  · rcases hkind with rfl | rfl <;> simp [show frameLength 0x01#8 = 4 from rfl, csumValid, sum8]

/-- The one last byte with which a frame of length 5 sums to zero, by kind. -/
theorem window_of_five_valid_iff {b3 b4 : Byte} (hkind : KindByte b3) (tail : List Byte) :
    csumValid ((0x71#8 :: 0x02#8 :: 0x01#8 :: b3 :: b4 :: tail).take (frameLength 0x02#8)) = true ↔
      (b3 = 0x50#8 ∧ b4 = 0x3C#8) ∨ (b3 = 0x10#8 ∧ b4 = 0x7C#8) := by
  have hlt := b4.isLt
  rw [show frameLength 0x02#8 = 5 from rfl, csumValid_iff]
  rcases hkind with rfl | rfl <;> simp [byteSum, BitVec.toNat_eq] <;> omega

/-- Settles O50: the first two lengths fail stage 6, and the third passes it for one last byte and is no datagram's. -/
theorem shortLengths : Obligations.ShortLengths := by
  intro s b3 b4 tail hkind
  constructor
  · intro b1 hb1 hbuf
    have hwhole : frameLength b1 ≤ bufLen s := by
      rcases hb1 with rfl | rfl <;> simp [frameLength_eq, bufLen, hbuf]
    have hbad := hbuf ▸ window_of_three_or_four_fails hb1 hkind tail
    rw [parseBuffer_valid_header hkind hbuf, assembleFrame_checksum_fails hwhole hbad]
    exact ⟨_, _, rfl, rfl, rfl, by simp⟩
  · intro hbuf
    have hwhole : frameLength 0x02#8 ≤ bufLen s := by simp [frameLength_eq, bufLen, hbuf]
    have hvalid := hbuf ▸ window_of_five_valid_iff (b4 := b4) hkind tail
    rw [parseBuffer_valid_header hkind hbuf]
    rw [← hvalid]
    cases hsum : csumValid (s.block.buf.take (frameLength 0x02#8))
    · rw [assembleFrame_checksum_fails hwhole hsum]
      exact ⟨_, _, rfl, rfl, by simp [conditionCode]⟩
    · rw [assembleFrame_unrecognized hwhole hsum (by decide)]
      exact ⟨_, _, rfl, rfl, by simp [conditionCode]⟩

end Sys2Proof.Proofs
end

section
/-! Proofs for 42_poll.md: runs of POLLs on a held transport, whose reads deliver given chunks: quiet POLLs settle, a
backlog is returned in order, and a fragmented frame is reassembled. -/

namespace Sys2Proof.Proofs

open Sys2Proof.Machine Sys2Proof.Laws

/-! ## A POLL for each of a list of chunks -/

theorem runSteps_next {s t : State} (n : Nat) (h : step s = .next t) : runSteps (n + 1) s = runSteps n t := by
  simp [runSteps, h]

theorem step_poll {s : State} {rest : List HostAction} (hhost : s.host = pollAction :: rest) :
    step s = execPoll (s.accept rest) := step_decoded (i := .poll) hhost rfl

/-- A read that delivers `c` with no fault. -/
def okRead (c : List Byte) : ReadAnswer := { bytes := c, status := .ok }

/-- The host issues a POLL for each of `chunks`, and the held transport answers their reads with the chunks, for which
the buffer has room. -/
structure Fed (chunks : List (List Byte)) (s : State) : Prop where
  cfgValid : s.block.cfgValid = true
  linkOpen : s.block.linkOpen = true
  inDuty : ∀ c ∈ chunks, c.length ≤ 1024
  fits : s.block.buf.length + chunks.flatten.length ≤ Config.bufCap
  polls : ∃ actions, s.host = List.replicate chunks.length pollAction ++ actions
  reads : ∃ answers, s.transport.reads.listed = chunks.map okRead ++ answers

/-- The state in which the POLL at the port starts stage 2, with `c` read. -/
def fetched (c : List Byte) (s : State) : State :=
  { block := { s.block with buf := s.block.buf ++ c }
    host := s.host.tail
    transport := { s.transport with reads := s.transport.reads.rest }
    requests := [.read 1024]
    rf := false
    response := none }

theorem Fed.step_eq {c : List Byte} {cs : List (List Byte)} {s : State} (h : Fed (c :: cs) s) :
    step s = parseBuffer (fetched c s) := by
  obtain ⟨hcfg, hlink, hduty, hfits, ⟨actions, hhost⟩, ⟨answers, hlisted⟩⟩ := h
  rw [List.length_cons, List.replicate_succ, List.cons_append] at hhost
  rw [List.map_cons, List.cons_append] at hlisted
  rw [List.flatten_cons, List.length_append] at hfits
  have hanswer : s.readAnswer = okRead c := by simp [State.readAnswer, Answers.next, hlisted]
  have hreads : ReadsChunk (s.accept (List.replicate cs.length pollAction ++ actions)) c :=
    ⟨hcfg, hlink, hduty c List.mem_cons_self, .inl hanswer⟩
  rw [step_poll hhost, execPoll_reads hreads, accept_block, appended_of_fits (by omega), fetched, hhost]
  rfl

theorem Parsed.keeps_link {s t : State} (h : Parsed s t) :
    t.block.cfgValid = s.block.cfgValid ∧ t.block.linkOpen = s.block.linkOpen := by
  cases h <;> simp

theorem rest_listed {α : Type} {q : Answers α} {a : α} {tail : List α} (h : q.listed = a :: tail) :
    q.rest.listed = tail := by
  simp [Answers.rest, h]

/-- Each POLL takes the first chunk, does what stages 2 to 7 can do with it, and leaves the others to come. -/
theorem Fed.step_parsed {c : List Byte} {cs : List (List Byte)} {s : State} (h : Fed (c :: cs) s) :
    ∃ t, step s = .next t ∧ Parsed (fetched c s) t ∧ Fed cs t := by
  obtain ⟨t, ht, hparsed⟩ := parseBuffer_parsed (fetched c s)
  refine ⟨t, h.step_eq.trans ht, hparsed, ?_⟩
  obtain ⟨hcfg, hlink, hduty, hfits, ⟨actions, hhost⟩, ⟨answers, hlisted⟩⟩ := h
  obtain ⟨hcfg', hlink'⟩ := hparsed.keeps_link
  obtain ⟨hhost', htransport', -, hsuffix⟩ := parseBuffer_parseFrame ht
  have hlen : t.block.buf.length ≤ s.block.buf.length + c.length := by simpa [fetched] using hsuffix.length_le
  rw [List.flatten_cons, List.length_append] at hfits
  exact {
    cfgValid := hcfg'.trans hcfg
    linkOpen := hlink'.trans hlink
    inDuty := fun c' hc' => hduty c' (List.mem_cons_of_mem _ hc')
    fits := by omega
    polls := ⟨actions, by rw [hhost', fetched, hhost]; rfl⟩
    reads := ⟨answers, by rw [htransport', fetched]; exact rest_listed hlisted⟩ }

/-! ## Quiet POLLs settle (42_poll.md R121) -/

theorem setBuf_self {s : State} {buf : List Byte} (hbuf : s.block.buf = buf) : s.setBuf buf = s := by
  rw [← hbuf]
  rfl

/-- What a buffer waits for depends on the buffer alone, and POLL answers it and keeps the buffer. -/
theorem parseBuffer_waits {code : ResponseCode} {s : State} (h : Waits code s.block.buf) :
    parseBuffer s = .next (respondPoll code s) := by
  generalize hbuf : s.block.buf = buf at h
  cases h with
  | empty => exact parseBuffer_empty hbuf
  | noSync hne hno =>
    subst hbuf
    exact parseBuffer_noSync hne hno
  | header hshort =>
    rw [parseBuffer_behind noSync_nil hbuf, setBuf_self hbuf]
    exact parseHeader_short (hbuf ▸ Nat.succ_lt_succ hshort)
  | length hkind hshort => rw [parseBuffer_valid_header hkind hbuf, assembleFrame_waits (hbuf ▸ hshort)]

/-- The latest POLL has answered with what the buffer waits for. -/
def Settled (s : State) : Prop := ∃ r, s.response = some r ∧ Waits r.code s.block.buf

theorem fetched_nil_block (s : State) : (fetched [] s).block = s.block := by simp [fetched]

/-- A quiet POLL of a settled machine answers the same code and leaves the block as it is. -/
theorem Fed.step_settled {cs : List (List Byte)} {s : State} {code : ResponseCode} (h : Fed ([] :: cs) s)
    (hwaits : Waits code s.block.buf) : step s = .next (respondPoll code (fetched [] s)) := by
  rw [← fetched_nil_block s] at hwaits
  rw [h.step_eq, parseBuffer_waits hwaits]

/-- A quiet POLL settles the machine, or it has made the buffer shorter. -/
theorem Fed.step_settles_or_shrinks {cs : List (List Byte)} {s : State} (h : Fed ([] :: cs) s) :
    ∃ t, step s = .next t ∧ Fed cs t ∧ (Settled t ∨ (¬ Settled s ∧ t.block.buf.length < s.block.buf.length)) := by
  obtain ⟨t, hstep, hparsed, hnext⟩ := h.step_parsed
  refine ⟨t, hstep, hnext, ?_⟩
  by_cases hsettled : Settled s
  · obtain ⟨r, -, hwaits⟩ := hsettled
    cases (h.step_settled hwaits).symm.trans hstep
    exact .inl ⟨_, rfl, by rwa [respondPoll_block, fetched_nil_block]⟩
  · obtain ⟨r, hr, hwaits | ⟨-, hlt⟩⟩ := hparsed.waits_or_shrinks
    · exact .inl ⟨r, hr, hwaits⟩
    · exact .inr ⟨hsettled, by rwa [fetched_nil_block] at hlt⟩

theorem quiet_run_settles (n : Nat) {s : State} (h : Fed (List.replicate (n + 1) []) s)
    (hn : Settled s ∨ s.block.buf.length + 1 ≤ n) : ∃ t, runSteps n s = .next t ∧ Settled t ∧ Fed [[]] t := by
  induction n generalizing s with
  | zero => exact ⟨s, rfl, hn.resolve_right (Nat.not_succ_le_zero _), h⟩
  | succ n ih =>
    obtain ⟨t, hstep, hnext, hcase⟩ := h.step_settles_or_shrinks
    have hn' : Settled t ∨ t.block.buf.length + 1 ≤ n := by
      refine hcase.imp_right fun ⟨hunsettled, hlt⟩ => ?_
      have hlen := hn.resolve_left hunsettled
      omega
    rw [runSteps_next n hstep]
    exact ih hnext hn'

theorem fed_quiet {s : State} {n : Nat} {actions : List HostAction} {answers : List ReadAnswer}
    (hcfg : s.block.cfgValid = true) (hlink : s.block.linkOpen = true) (hbuf : s.block.buf.length ≤ Config.bufCap)
    (hhost : s.host = List.replicate n pollAction ++ actions)
    (hreads : s.transport.reads.listed = List.replicate n emptyRead ++ answers) : Fed (List.replicate n []) s where
  cfgValid := hcfg
  linkOpen := hlink
  inDuty := fun c hc => by simp [(List.mem_replicate.mp hc).2]
  fits := by simpa using hbuf
  polls := ⟨actions, by rwa [List.length_replicate]⟩
  reads := ⟨answers, by rwa [List.map_replicate]⟩

/-- Settles O47: every quiet POLL settles the machine or shortens the buffer, so that after one more than its length the
machine is settled, and the next POLL changes nothing. -/
theorem quietPollsSettle : Obligations.QuietPollsSettle := by
  intro s n actions answers hcfg hlink hbuf hhost hreads hn
  obtain ⟨t, hrun, ⟨r, hr, hwaits⟩, hfed⟩ :=
    quiet_run_settles n (fed_quiet hcfg hlink hbuf hhost hreads) (.inr hn)
  exact ⟨t, _, r, _, hrun, hfed.step_settled hwaits, hr, rfl, hwaits.code_mem, rfl, fetched_nil_block t⟩

/-! ## A backlog is returned in order (42_poll.md R123) -/

/-- The POLL from `s` to `t` has returned `f`, counted it twice over and left `tail` (42_poll.md R117). -/
structure Returned (f tail : List Byte) (s t : State) : Prop where
  response : t.response = some { code := .pollDispatched, flt := t.block.fault, rf := some false, dg := some f }
  buf : t.block.buf = tail
  totalReads : t.block.totalReads = countUp s.block.totalReads
  goodReads : t.block.goodReads = countUp s.block.goodReads

/-- A POLL whose read completes a datagram at the head of the buffer returns it. -/
theorem Fed.step_returns {c f tail : List Byte} {cs : List (List Byte)} {s : State} (h : Fed (c :: cs) s)
    (hframe : Datagram f) (hbuf : s.block.buf ++ c = f ++ tail) :
    ∃ t, step s = .next t ∧ Returned f tail s t ∧ Fed cs t := by
  obtain ⟨t, hstep, -, hnext⟩ := h.step_parsed
  refine ⟨t, hstep, ?_, hnext⟩
  rw [h.step_eq, parseBuffer_datagram (g := []) noSync_nil hframe hbuf] at hstep
  cases hstep
  constructor <;> simp [fetched]

theorem backlog_run (before : List (List Byte)) {after : List (List Byte)} {f tail : List Byte} {s : State}
    (h : Fed (List.replicate (before.length + 1) []) s) (hframes : ∀ g ∈ before ++ f :: after, Datagram g)
    (hbuf : s.block.buf = (before ++ f :: after).flatten ++ tail) :
    ∃ t u, runSteps (before.length + 1) s = .next t ∧ Returned f (after.flatten ++ tail) u t := by
  induction before generalizing s with
  | nil =>
    obtain ⟨t, hstep, hreturned, -⟩ := h.step_returns (tail := after.flatten ++ tail)
      (hframes f List.mem_cons_self) (by simp [hbuf])
    exact ⟨t, s, runSteps_next 0 hstep, hreturned⟩
  | cons g before ih =>
    obtain ⟨t, hstep, hreturned, hnext⟩ := h.step_returns (tail := (before ++ f :: after).flatten ++ tail)
      (hframes g List.mem_cons_self) (by simp [hbuf])
    rw [List.length_cons, runSteps_next _ hstep]
    exact ih hnext (fun g' hg' => hframes g' (List.mem_cons_of_mem _ hg')) hreturned.buf

/-- Settles O48, by induction on the frames before the one returned last. -/
theorem backlogReturnedInOrder : Obligations.BacklogReturnedInOrder := by
  intro s before after f tail actions answers hcfg hlink hcap hframes hbuf hhost hreads
  obtain ⟨t, u, hrun, hreturned⟩ := backlog_run before (fed_quiet hcfg hlink hcap hhost hreads) hframes hbuf
  exact ⟨t, hrun, hreturned.response, hreturned.buf⟩

/-! ## A fragmented frame is reassembled (42_poll.md R124) -/

/-- A whole frame of which some bytes are buffered, but not all, is waited for. -/
theorem waits_take {f : List Byte} {k : Nat} (hframe : WholeFrame f) (hpos : 0 < k) (hk : k < f.length) :
    ∃ code, (code = .pollHeaderWait ∨ code = .pollLengthWait) ∧ Waits code (f.take k) := by
  obtain ⟨b1, b3, tail, rfl, hkind, hlen, -⟩ := hframe
  match k with
  | 1 | 2 | 3 => exact ⟨_, .inl rfl, .header (by simp)⟩
  | n + 4 =>
    refine ⟨_, .inr rfl, .length hkind ?_⟩
    rw [frameLength_eq, ← hlen]
    simp only [List.length_cons, List.length_take] at hk ⊢
    omega

/-- The POLLs from `s` to `t` have answered, last, that the frame is not whole yet, and have counted nothing. -/
def WaitsUncounted (s t : State) : Prop :=
  ∃ r, t.response = some r ∧ (r.code = .pollHeaderWait ∨ r.code = .pollLengthWait) ∧ SameCounters s t

theorem WaitsUncounted.sameCounters {s t : State} (h : WaitsUncounted s t) : SameCounters s t := by
  obtain ⟨_, -, -, hsame⟩ := h
  exact hsame

theorem SameCounters.trans {s t u : State} (hst : SameCounters s t) (htu : SameCounters t u) : SameCounters s u :=
  ⟨htu.1.trans hst.1, htu.2.trans hst.2⟩

/-- A POLL whose read leaves a whole frame incomplete waits with all that has come. -/
theorem Fed.step_waits {c rest f : List Byte} {cs : List (List Byte)} {s : State} (h : Fed (c :: cs) s)
    (hframe : WholeFrame f) (hc : c ≠ []) (hrest : rest ≠ []) (hbuf : s.block.buf ++ c ++ rest = f) :
    ∃ t, step s = .next t ∧ WaitsUncounted s t ∧ t.block.buf = s.block.buf ++ c ∧ Fed cs t := by
  have hpos : 0 < (s.block.buf ++ c).length := List.length_pos_iff.mpr (by simp [hc])
  have hlt : (s.block.buf ++ c).length < f.length := by
    have hrest' := List.length_pos_iff.mpr hrest
    rw [← hbuf, List.length_append (as := s.block.buf ++ c)]
    omega
  obtain ⟨code, hcode, hwaits⟩ := waits_take hframe hpos hlt
  rw [← hbuf, List.take_left] at hwaits
  have hstep : step s = .next (respondPoll code (fetched c s)) := by rw [h.step_eq, parseBuffer_waits hwaits]
  obtain ⟨t, ht, -, hnext⟩ := h.step_parsed
  cases hstep.symm.trans ht
  exact ⟨_, hstep, ⟨_, rfl, hcode, rfl, rfl⟩, rfl, hnext⟩

theorem fragments_run (chunks : List (List Byte)) {last f : List Byte} {s : State} (h : Fed (chunks ++ [last]) s)
    (hframe : Datagram f) (hne : ∀ c ∈ chunks ++ [last], c ≠ [])
    (hbuf : s.block.buf ++ (chunks ++ [last]).flatten = f) :
    (∀ k < chunks.length, ∃ t, runSteps (k + 1) s = .next t ∧ WaitsUncounted s t) ∧
      ∃ t, runSteps (chunks.length + 1) s = .next t ∧ Returned f [] s t := by
  induction chunks generalizing s with
  | nil =>
    obtain ⟨t, hstep, hreturned, -⟩ := h.step_returns (tail := []) hframe (by simpa using hbuf)
    exact ⟨fun k hk => absurd hk (Nat.not_lt_zero k), t, runSteps_next 0 hstep, hreturned⟩
  | cons c chunks ih =>
    have hlast : last ≠ [] := hne last (by simp)
    obtain ⟨t, hstep, hwaits, hbuf', hnext⟩ := h.step_waits (rest := (chunks ++ [last]).flatten) hframe.1
      (hne c List.mem_cons_self) (by simp [hlast]) (by simpa using hbuf)
    obtain ⟨hwait, u, hrun, hresponse, hempty, htotal, hgood⟩ :=
      ih hnext (fun c' hc' => hne c' (List.mem_cons_of_mem _ hc')) (by simpa [hbuf'] using hbuf)
    have hsame := hwaits.sameCounters
    refine ⟨fun k hk => ?_, u, (runSteps_next _ hstep).trans hrun, hresponse, hempty, hsame.1 ▸ htotal, hsame.2 ▸ hgood⟩
    cases k with
    | zero => exact ⟨t, runSteps_next 0 hstep, hwaits⟩
    | succ k =>
      obtain ⟨v, hv, r, hr, hcode, hcounts⟩ := hwait k (Nat.lt_of_succ_lt_succ hk)
      exact ⟨v, (runSteps_next _ hstep).trans hv, r, hr, hcode, hsame.trans hcounts⟩

/-- Settles O49, by induction on the chunks before the last. -/
theorem fragmentsReassemble : Obligations.FragmentsReassemble := by
  intro s chunks last f actions answers hcfg hlink hempty hne hflat hframe hhost hreads
  have hlen : (chunks ++ [last]).flatten.length ≤ 203 := by
    obtain ⟨-, hlen⟩ := hframe
    rw [hflat]
    omega
  have hfed : Fed (chunks ++ [last]) s := {
    cfgValid := hcfg
    linkOpen := hlink
    inDuty := fun c hc => by
      have hsub := (List.sublist_flatten_of_mem hc).length_le
      omega
    fits := by
      have hcap := bufCap_ge
      rw [hempty, List.length_nil]
      omega
    polls := ⟨actions, by rw [hhost, List.length_append]; rfl⟩
    reads := ⟨answers, hreads⟩ }
  obtain ⟨hwait, t, hrun, hreturned⟩ := fragments_run chunks hfed hframe hne (by rw [hempty, hflat]; rfl)
  refine ⟨fun k hk => ?_, t, hrun, hreturned.response, hreturned.buf, hreturned.totalReads, hreturned.goodReads⟩
  obtain ⟨u, hu, r, hr, hcode, htotal, hgood⟩ := hwait k hk
  exact ⟨u, r, hu, hr, hcode, htotal, hgood⟩

end Sys2Proof.Proofs
end

section
/-! Proofs for 43_statistics.md: GETSTATS, a read-only snapshot of the two counters, of their percentage and of `FAULT`. -/

namespace Sys2Proof.Proofs

open Sys2Proof.Machine

/-- GETSTATS answers and writes nothing else (43_statistics.md R130). -/
theorem exec_getstats (s : State) : exec .getstats s = .next { s with response := some {
    code := .ok
    flt := s.block.fault
    good := some s.block.goodReads
    total := some s.block.totalReads
    pct := some (pctExact s.block.goodReads s.block.totalReads) } } := rfl

/-- Settles O26: the word `0x04` stands on the port, and the percentage that GETSTATS answers is R131's rational. -/
theorem getstatsReports : Obligations.GetstatsReports :=
  fun _ _ _ s => ⟨decodeCommand_of_onPort (.getstats rfl), exec_getstats s, rfl⟩

end Sys2Proof.Proofs
end

section
/-! Proofs for 44_send_command.md: SEND as a whole next state, by the answers that its two writes get. -/

namespace Sys2Proof.Proofs

open Sys2Proof.Machine

/-! ## The two writes, each by its answer (44_send_command.md R135) -/

theorem sendPayload_err (payload : List Byte) {s : State} (h : s.writeAnswer = .err) :
    sendPayload payload s = raiseCondition (.transportWriteError .payload) (issueWrite payload s) := by
  simp [sendPayload, h]

theorem sendPayload_ok (payload : List Byte) {s : State} (h : s.writeAnswer = .ok) :
    sendPayload payload s = sendChecksum (csumGen payload) (issueWrite payload s) := by simp [sendPayload, h]

theorem sendChecksum_err (cs : Byte) {s : State} (h : s.writeAnswer = .err) :
    sendChecksum cs s = raiseCondition (.transportWriteError .checksum) (issueWrite [cs] s) := by
  simp [sendChecksum, h]

theorem sendChecksum_ok (cs : Byte) {s : State} (h : s.writeAnswer = .ok) :
    sendChecksum cs s = respondCode .ok (issueWrite [cs] s) := by simp [sendChecksum, h]

/-- Two writes in a row are two requests in their order, and take two answers. -/
theorem issueWrite_issueWrite (first second : List Byte) (s : State) :
    issueWrite second (issueWrite first s) = { s with
      transport := { s.transport with writes := s.transport.writes.rest.rest }
      requests := s.requests ++ [.write first, .write second] } := by
  simp [issueWrite, State.issue]

/-! ## The command -/

theorem exec_send_free (payload : List Byte) {s : State} (h : s.block.linkOpen = false) :
    exec (.send payload) s = .next (raiseCondition (.transportWriteError .payload) s) := execSend_free payload h

theorem exec_send_held (payload : List Byte) {s : State} (h : s.block.linkOpen = true) :
    exec (.send payload) s = .next (sendPayload payload s) := execSend_held payload h

/-- Settles O22, by whether a transport is held and by the answers of the writes: the second write gets the answer that
the first one has left at the head. -/
theorem sendWritesTwice : Obligations.SendWritesTwice := by
  intro payload port timeout s cs once
  have hcs : csumGen payload = cs := csumGen_eq_ofNat payload
  have hanswer : (issueWrite payload s).writeAnswer = once.next Config.freeWrite := rfl
  refine ⟨by simp [decodeCommand, rsvField, opcField, decodeBytes_eq], fun hfree => ?_, fun hheld herr => ?_,
    fun hheld hok herr => ?_, fun hheld hok hok' => ?_, rfl, rfl⟩
  · rw [exec_send_free payload hfree]
    rfl
  · rw [exec_send_held payload hheld, sendPayload_err payload herr]
    rfl
  · rw [exec_send_held payload hheld, sendPayload_ok payload hok, hcs, sendChecksum_err cs (hanswer.trans herr),
      issueWrite_issueWrite]
    rfl
  · rw [exec_send_held payload hheld, sendPayload_ok payload hok, hcs, sendChecksum_ok cs (hanswer.trans hok'),
      issueWrite_issueWrite]
    rfl

end Sys2Proof.Proofs
end

section
/-! Proofs for 70_reset_and_hazards.md: the values that the block takes at reset. -/

namespace Sys2Proof.Proofs

open Sys2Proof.Machine

/-- The elements that R160 gives a value; it gives none to the stored port and timeout. -/
theorem blockReset_values :
    Block.reset.buf = [] ∧ Block.reset.totalReads = 0#32 ∧ Block.reset.goodReads = 0#32 ∧
      Block.reset.linkOpen = false ∧ Block.reset.cfgValid = false ∧ Block.reset.fault = 0#2 :=
  ⟨rfl, rfl, rfl, rfl, rfl, rfl⟩

/-- Settles O1: the state after reset holds the reset block; a reset event takes the host's action, which clears the list of
requests, and then writes the block only. -/
theorem resetSetsEveryElement : Obligations.ResetSetsEveryElement := by
  refine ⟨blockReset_values, fun s rest hhost => ⟨resetBlock (s.accept rest), step_reset hhost, ?_⟩⟩
  simpa using blockReset_values

end Sys2Proof.Proofs
end
